-- ==== Sys2Proof/Word.lean ====
section
/-! DEFINITION. The word types of RRC (00_scope.md R7): 64-bit register images and addresses, 32-bit MMIO and PCI
words and command words. All values are unsigned (00_scope.md R9), so `BitVec` operations are the spec's operators. -/

namespace Sys2Proof

/-- A 64-bit value: an MSR image, a mirror image, a physical address, a host-port datum (00_scope.md R7). -/
abbrev Word64 := BitVec 64

/-- A 32-bit value: a command word, one MMIO word, a PCI configuration dword (00_scope.md R7). -/
abbrev Word32 := BitVec 32

end Sys2Proof
end

