-- ==== Sys2Proof/Syntax.lean ====
section
/-! DEFINITION. RRC's commands: one constructor per row of spec/opcode_table.json (30_encoding.md R84). -/

namespace Sys2Proof

/-- The MmioReconciler policy, the POL field (30_encoding.md R82): POL = 0 is DISABLE, POL = 1 is MIRROR. -/
inductive Policy where
  | disable
  | mirror
deriving DecidableEq, Repr

/-- A command of RRC (30_encoding.md R84 and R88). A bit index is a number; `WellFormed` bounds it by 63. -/
inductive Instr where
  /-- `TESTF b` (41_codec.md R103). -/
  | testf (b : Nat)
  /-- `WITHF b, x` (41_codec.md R104). -/
  | withf (b : Nat) (x : Bool)
  /-- `MSRRC` (42_msr_reconcile.md R121). -/
  | msrrc
  /-- `MCHRS` (43_mchbar_resolve.md R141). -/
  | mchrs
  /-- `MMIORC DISABLE` / `MMIORC MIRROR` (44_mmio_reconcile.md R162). -/
  | mmiorc (p : Policy)
  /-- `RUN DISABLE` / `RUN MIRROR` (45_sequence.md R190). -/
  | run (p : Policy)
deriving DecidableEq, Repr

end Sys2Proof
end

