-- ==== Sys2Proof/WellFormed.lean ====
section
/-! DEFINITION. Which commands have an encoding: a bit index is 0 to 63 (30_encoding.md R83 and R88). -/

namespace Sys2Proof

/-- The check an assembler makes (30_encoding.md R88: "refuses a bit index outside 0 to 63"). The Boolean, the policy
and the absence of other operands are in the type. -/
def Instr.wellFormed : Instr → Bool
  | .testf b   => decide (b ≤ 63)
  | .withf b _ => decide (b ≤ 63)
  | .msrrc     => true
  | .mchrs     => true
  | .mmiorc _  => true
  | .run _     => true

end Sys2Proof
end

