-- ==== Sys2Proof/Decode.lean ====
section
/-! DEFINITION. Command words: the fields of 30_encoding.md R81, the opcode map of R84 as a table of mask and match,
the decoder with its named rejections (R85), and after it the encoder (R88). -/

namespace Sys2Proof

/-! ### The fields of a command word (30_encoding.md R81) -/

/-- `OP`, bits 3:0. -/
def opField (w : Word32) : BitVec 4 := w.extractLsb' 0 4

/-- `POL`, bit 4. -/
def polField (w : Word32) : Bool := w.getLsbD 4

/-- `X`, bit 5. -/
def xField (w : Word32) : Bool := w.getLsbD 5

/-- `BIT`, bits 11:6, an unsigned index (30_encoding.md R83). -/
def bitField (w : Word32) : BitVec 6 := w.extractLsb' 6 6

/-- `RSV`, bits 31:12. -/
def rsvField (w : Word32) : BitVec 20 := w.extractLsb' 12 20

/-- The policy a POL bit selects (30_encoding.md R82). -/
def policyOfBit (pol : Bool) : Policy := if pol then .mirror else .disable

/-- The POL bit of a policy (30_encoding.md R82). -/
def bitOfPolicy : Policy → Bool
  | .disable => false
  | .mirror  => true

/-! ### The opcode map (30_encoding.md R84) -/

/-- The rows of the opcode map. -/
inductive Mnemonic where
  | testf | withf | msrrc | mchrs | mmiorc | run
deriving DecidableEq, Repr

/-- One row: a word is the row's command exactly when `(word & mask) == value` (R84; `value` is the table's `match`). -/
structure OpcodeRow where
  mnemonic : Mnemonic
  value    : Word32
  mask     : Word32
deriving DecidableEq, Repr

/-- Whether a word is the command of a row (30_encoding.md R84). -/
def rowMatches (r : OpcodeRow) (w : Word32) : Bool := w &&& r.mask == r.value

/-- The table of 30_encoding.md R84. -/
def opcodeRows : List OpcodeRow := [
  ⟨.testf,  0x00000001, 0xFFFFF03F⟩,
  ⟨.withf,  0x00000002, 0xFFFFF01F⟩,
  ⟨.msrrc,  0x00000003, 0xFFFFFFFF⟩,
  ⟨.mchrs,  0x00000004, 0xFFFFFFFF⟩,
  ⟨.mmiorc, 0x00000005, 0xFFFFFFEF⟩,
  ⟨.run,    0x00000006, 0xFFFFFFEF⟩]

/-- The command of a row, its operands taken from the word (30_encoding.md R83). -/
def commandOf (m : Mnemonic) (w : Word32) : Instr :=
  match m with
  | .testf  => .testf (bitField w).toNat
  | .withf  => .withf (bitField w).toNat (xField w)
  | .msrrc  => .msrrc
  | .mchrs  => .mchrs
  | .mmiorc => .mmiorc (policyOfBit (polField w))
  | .run    => .run (policyOfBit (polField w))

/-! ### Decoding -/

/-- Why a word is no command (30_encoding.md R85). -/
inductive DecodeError where
  /-- OP = 0x0, or OP in 0x7 to 0xF. -/
  | unassignedOpcode
  /-- A bit of RSV is 1. -/
  | reservedBitsSet
  /-- A field the opcode does not use is not 0. -/
  | unusedFieldSet
deriving DecidableEq, Repr

/-- The name of a rejection; a word wrong in two ways has the first of R85's reasons. -/
def rejection (w : Word32) : DecodeError :=
  if opField w = 0 ∨ 6 < (opField w).toNat then .unassignedOpcode
  else if rsvField w ≠ 0 then .reservedBitsSet
  else .unusedFieldSet

/-- The decoder: total on every 32-bit word (30_encoding.md R87), a word that matches no row rejected by name (R85). -/
def decode (w : Word32) : Except DecodeError Instr :=
  match opcodeRows.find? (fun r => rowMatches r w) with
  | some r => .ok (commandOf r.mnemonic w)
  | none   => .error (rejection w)

/-- The host's question to the decoder: every command is one 32-bit word (30_encoding.md R80), its bits numbered as the
opcode table numbers them. -/
def decodeTableWord (nbits w : Nat) : Option Instr :=
  match decode (BitVec.ofNat 32 (w % 2 ^ nbits)) with
  | .ok i    => some i
  | .error _ => none

/-! ### Encoding (30_encoding.md R88) -/

/-- The word of a command, as the syntax table of 30_encoding.md R88 gives it. -/
def encode : Instr → Word32
  | .testf b   => (0x00000001 : Word32) ||| (BitVec.ofNat 32 b <<< 6)
  | .withf b x => (0x00000002 : Word32) ||| (BitVec.ofNat 32 b <<< 6) ||| ((BitVec.ofBool x).setWidth 32 <<< 5)
  | .msrrc     => 0x00000003
  | .mchrs     => 0x00000004
  | .mmiorc p  => (0x00000005 : Word32) ||| ((BitVec.ofBool (bitOfPolicy p)).setWidth 32 <<< 4)
  | .run p     => (0x00000006 : Word32) ||| ((BitVec.ofBool (bitOfPolicy p)).setWidth 32 <<< 4)

end Sys2Proof
end

