-- ==== Sys2Proof/Config.lean ====
section
/-! DEFINITION. What one installation of RRC fixes (00_scope.md R5), and the model's free values: what the spec leaves
open. A free value is an opaque constant with no body, so no proof can see what it is. -/

namespace Sys2Proof.Config

/-- The configuration parameters of 00_scope.md R5. `HIGH_WORD_OFFSET` = 4 is no parameter ("fixed, not
configurable"). The machine carries its parameters unchanged in `State.cfg` (log entry 1), so a statement about every
state is a statement about every configuration. -/
structure Params where
  /-- `MSR_INDEX` (OPEN in R5). -/
  msrIndex   : Word32
  /-- `PCI_BUS`. -/
  pciBus     : BitVec 8
  /-- `PCI_DEV`. -/
  pciDev     : BitVec 5
  /-- `PCI_FN`. -/
  pciFn      : BitVec 3
  /-- `PCI_OFF`. -/
  pciOff     : BitVec 12
  /-- `MMIO_OFFSET`. -/
  mmioOffset : Word64
  /-- `MIRROR_PA` (OPEN in R5): where the mirror's LOW word responds (20_memory.md R58). -/
  mirrorPa   : Word64
  /-- `EXT_WRITERS` (20_memory.md R70). -/
  extWriters : Bool
deriving DecidableEq, Repr

/-- One device's answer to one transaction: the draw of 20_memory.md R58 to R61, R63 to R65. -/
inductive Draw where
  /-- The device answers `ok`. A read at an address that misses the mirror returns `w` (R58: "any 32-bit value");
  every other `ok` ignores `w`. -/
  | ok (w : Word32)
  /-- The device answers `err`. `landed` says whether a write took effect all the same (R60, R64: the word is old or
  new, never torn); a read ignores it. -/
  | err (landed : Bool)
  /-- The device does not answer (yet): the controller stays where it is (R65). -/
  | noAnswer
deriving DecidableEq, Repr, Inhabited

/-- `MSR_INDEX`: OPEN, no default (00_scope.md R5, 91_not_in_source.md N3). Free value, log entry 2. -/
opaque msrIndex : Word32

/-- `MIRROR_PA`: OPEN, no default (00_scope.md R5). Free value, log entry 2. -/
opaque mirrorPa : Word64

/-- The MSR's value at power-on: unspecified (70_reset_and_hazards.md R242). Free value, log entry 3. -/
opaque powerOnMsr : Word64

/-- The mirror's LOW word at power-on: unspecified (20_memory.md R62). Free value, log entry 3. -/
opaque powerOnMlo : Word32

/-- The mirror's HIGH word at power-on: unspecified but for LOCK, which is 0 (20_memory.md R62). Free value, log
entry 3. -/
opaque powerOnMhi : Word32

/-- The PCI dword at power-on: unspecified (70_reset_and_hazards.md R242). Free value, log entry 3. -/
opaque powerOnPci : Word32

/-- The answer of the n-th transaction that the state's own list of answers does not cover (20_memory.md R59 to R65: "a
draw of the device"). Free value, log entry 4. -/
opaque freeDraw : Nat → Draw

/-- The configuration with the spec's defaults (00_scope.md R5): PCI location (0, 0, 0, 0x48), `MMIO_OFFSET` 0x59A0,
`EXT_WRITERS` false; the two OPEN parameters are free values. -/
def defaults : Params where
  msrIndex   := msrIndex
  pciBus     := 0
  pciDev     := 0
  pciFn      := 0
  pciOff     := 0x048
  mmioOffset := 0x59A0
  mirrorPa   := mirrorPa
  extWriters := false

end Sys2Proof.Config
end

