-- ==== Sys2Proof/Machine/State.lean ====
section
/-! DEFINITION. The state of RRC and of the agents around it, as plain data: the host registers (10_state.md R20), the
sequencer and the hidden state (R35, R37), the three target devices (20_memory.md R56, R63, R64), the host's program
(30_encoding.md R89), the transactions issued (60_exceptions.md R225), and the model's own schedule and draws. -/

namespace Sys2Proof.Machine

/-! ### Codes held in STATUS and SEQ -/

/-- The transaction kinds, one numbering for SEQ and STAGE (10_state.md R25). Codes 8 to 15 are never held (R35), so
they have no constructor. `idle` is also STAGE's "no failing transaction". -/
inductive Seq where
  | idle | msrRd | msrWr | pciRd | mmioRdLo | mmioRdHi | mmioWrLo | mmioWrHi
deriving DecidableEq, Repr

/-- The ERR codes (10_state.md R26). -/
inductive ErrCode where
  | none | access | baseDisabled | illegalCmd
deriving DecidableEq, Repr

/-- The MSR_RPT codes (10_state.md R27). -/
inductive MsrReport where
  | notRun | alreadyEnabled | written
deriving DecidableEq, Repr

/-- The MMIO_RPT codes (10_state.md R28). -/
inductive MmioReport where
  | notRun | writtenLocked | alreadyReconciled | lockedWithLimitsActive | lockedCannotMirror
deriving DecidableEq, Repr

/-- The stored fields of STATUS (10_state.md R22). BUSY and SEQ are views of the sequencer and are not stored; reserved
bits read 0 and have no storage. -/
@[ext]
structure Status where
  done    : Bool
  fatal   : Bool
  warn    : Bool
  wovr    : Bool
  err     : ErrCode
  stage   : Seq
  msrRpt  : MsrReport
  mmioRpt : MmioReport
  mchOk   : Bool
deriving DecidableEq, Repr

/-- Every stored STATUS field 0: what reset (10_state.md R40) and acceptance (30_encoding.md R86) leave. -/
def Status.clear : Status where
  done    := false
  fatal   := false
  warn    := false
  wovr    := false
  err     := .none
  stage   := .idle
  msrRpt  := .notRun
  mmioRpt := .notRun
  mchOk   := false

/-! ### Host registers and host programs -/

/-- The eleven host-visible registers (10_state.md R20). -/
inductive HostReg where
  | cmd | status | a | r | msrin | msrimg | cfgraw | base | addr | mmioimg | newimg
deriving DecidableEq, Repr

/-- One operation of a host program (30_encoding.md R89). A register is named by its 4-bit index. -/
inductive HostOp where
  /-- `WR reg, imm`. -/
  | wr (idx : BitVec 4) (v : Word64)
  /-- `RD reg`. -/
  | rd (idx : BitVec 4)
  /-- `ISSUE cmd`. -/
  | issue (i : Instr)
  /-- `WAIT`: poll STATUS until BUSY = 0. -/
  | wait
  /-- `DO cmd`: issue and wait. -/
  | doCmd (i : Instr)
deriving DecidableEq, Repr

/-! ### Transactions (00_scope.md R11) -/

/-- A request on one of the three bus-master ports. Memory requests are always one 32-bit word (00_scope.md R11). -/
inductive Request where
  | msrRead (idx : Word32)
  | msrWrite (idx : Word32) (v : Word64)
  | memRead (addr : Word64)
  | memWrite (addr : Word64) (w : Word32)
  | pciRead (bus : BitVec 8) (dev : BitVec 5) (fn : BitVec 3) (off : BitVec 12)
deriving DecidableEq, Repr

/-- The response RRC sees (00_scope.md R11, R13). -/
inductive Response where
  /-- `ok(v)` of an MSR read. -/
  | value64 (v : Word64)
  /-- `ok(w)` of an MMIO or PCI read. -/
  | value32 (w : Word32)
  /-- `ok` of a write. -/
  | ok
  | err
deriving DecidableEq, Repr

/-- A completed transaction: the stage that issued it, its request, its response (60_exceptions.md R225). -/
structure Txn where
  stage : Seq
  req   : Request
  resp  : Response
deriving DecidableEq, Repr

/-! ### The other agents -/

/-- Which agent moves, and with what, when the schedule gives it the turn (00_scope.md R8). -/
inductive Turn where
  /-- The controller performs the transaction SEQ names (10_state.md R36). -/
  | controller
  /-- The host performs the next operation of its program. -/
  | host
  /-- RRC's reset is asserted; `landed` is the draw whether a device performed the abandoned write
  (70_reset_and_hazards.md R240). -/
  | blockReset (landed : Bool)
  /-- Power-on, with the values the platform then holds (70_reset_and_hazards.md R242) and the draw of R240. -/
  | powerOn (landed : Bool) (msr : Word64) (mlo mhi pci : Word32)
  /-- The external writer writes the MSR (20_memory.md R70). -/
  | extMsrWrite (v : Word64)
  /-- The external writer writes the mirror's HIGH (`high`) or LOW word (20_memory.md R70). -/
  | extMirrorWrite (high : Bool) (w : Word32)
  /-- Firmware writes the MSR between power-on and the first command (70_reset_and_hazards.md R242). -/
  | firmwareMsrWrite (v : Word64)
  /-- Firmware writes the mirror's HIGH (`high`) or LOW word between power-on and the first command (20_memory.md
  R62). -/
  | firmwareMirrorWrite (high : Bool) (w : Word32)
  /-- The platform changes the PCI dword between commands (20_memory.md R63, 95_test_vectors.md P5). -/
  | platformPci (d : Word32)
deriving DecidableEq, Repr

/-! ### The state -/

/-- Everything the spec gives the machine, and the model's own fields (INVENTORY.md, State). LOP, LPOL, LX and LBIT are
views of `cmd` (10_state.md R37), LOCK a view of `mhi` (20_memory.md R56), TNLO and TNHI halves of `newimg` (R37). -/
@[ext]
structure State where
  /-- `CMD` (10_state.md R21). -/
  cmd     : Word32
  /-- The stored fields of `STATUS` (10_state.md R22). -/
  status  : Status
  /-- `A` (10_state.md R31). -/
  a       : Word64
  /-- `R` (10_state.md R31). -/
  r       : Word64
  /-- `MSRIN` (10_state.md R32). -/
  msrin   : Word64
  /-- `MSRIMG` (10_state.md R32). -/
  msrimg  : Word64
  /-- `CFGRAW` (10_state.md R33). -/
  cfgraw  : Word32
  /-- `BASE` (10_state.md R33). -/
  base    : Word64
  /-- `ADDR` (10_state.md R33). -/
  addr    : Word64
  /-- `MMIOIMG` (10_state.md R34). -/
  mmioimg : Word64
  /-- `NEWIMG` (10_state.md R34). -/
  newimg  : Word64
  /-- `SEQ` (10_state.md R35). -/
  seq     : Seq
  /-- `TLO` (10_state.md R37). -/
  tlo     : Word32
  /-- The MSR device's value M (20_memory.md R64). -/
  msr     : Word64
  /-- The mirror's LOW word MLO (20_memory.md R56). -/
  mlo     : Word32
  /-- The mirror's HIGH word MHI (20_memory.md R56). -/
  mhi     : Word32
  /-- The PCI device's dword D (20_memory.md R63). -/
  pci     : Word32
  /-- The stray writes recorded, oldest first (20_memory.md R58). -/
  stray   : List (Word64 × Word32)
  /-- The transactions of the last accepted command, oldest first (60_exceptions.md R225). -/
  trace   : List Txn
  /-- Whether RRC has accepted a command since power-on: the end of the time in which firmware may write the target
  registers (20_memory.md R62). -/
  commanded : Bool
  /-- The rest of the host's program (30_encoding.md R89). -/
  program : List HostOp
  /-- What the host port last returned to a `HostRead` (60_exceptions.md R220). -/
  rdData  : Word64
  /-- The model's own: whose turn it is, the next first. -/
  turns   : List Turn
  /-- The model's own: the devices' next answers, the next first. -/
  draws   : List Config.Draw
  /-- The model's own: how many free draws have been taken. -/
  drawCtr : Nat
  /-- The configuration, which no step changes (00_scope.md R5). -/
  cfg     : Config.Params
deriving DecidableEq, Repr

/-! ### Reasons to stop -/

/-- Why the machine stops. -/
inductive Fault where
  /-- Raised by a command's meaning, or by the controller's turn, when SEQ names a stage that the table of 10_state.md
  R36 does not give the command in CMD (its "-" entries). No run from reset meets it. SAFE: the model stops where the
  spec gives no stage rule. -/
  | noStageRule
deriving DecidableEq, Repr

/-- Why an instruction has no meaning. -/
inductive Refusal where
  /-- Raised by an arm of `exec` that has no meaning yet. SAFE: the model stops. No arm raises it. -/
  | notModelled (mnemonic : String)
deriving DecidableEq, Repr

/-! ### Reset -/

/-- The machine right after power-on: every RRC register 0 and SEQ = IDLE (10_state.md R40), the mirror unlocked with
its other bits, the MSR and the PCI dword unspecified (70_reset_and_hazards.md R242, log entry 3), no host program and no
scheduled turn or answer (log entries 5, 6, 7). -/
def State.reset : State where
  cmd     := 0
  status  := Status.clear
  a       := 0
  r       := 0
  msrin   := 0
  msrimg  := 0
  cfgraw  := 0
  base    := 0
  addr    := 0
  mmioimg := 0
  newimg  := 0
  seq     := .idle
  tlo     := 0
  msr     := Config.powerOnMsr
  mlo     := Config.powerOnMlo
  mhi     := Config.powerOnMhi &&& 0x7FFFFFFF
  pci     := Config.powerOnPci
  stray   := []
  trace   := []
  commanded := false
  program := []
  rdData  := 0
  turns   := []
  draws   := []
  drawCtr := 0
  cfg     := Config.defaults

end Sys2Proof.Machine
end

