-- ==== Sys2Proof/Machine/Operands.lean ====
section
/-! DEFINITION. Operand forms: the codec's functions (41_codec.md R100), the field positions (00_scope.md R6), the
latched command fields (10_state.md R37), LOCK (20_memory.md R56), and the host port's register numbering
(10_state.md R20). -/

namespace Sys2Proof.Machine

/-! ### The codec (41_codec.md R100) -/

/-- Extraction: `v[b] == 1`. -/
def isFieldEnabled (v : Word64) (b : Nat) : Bool := v.getLsbD b

/-- Insertion at 64 bits: `if x then v | (1 << b) else v & ~(1 << b)`. -/
def withField (v : Word64) (b : Nat) (x : Bool) : Word64 :=
  if x then v ||| ((1 : Word64) <<< b) else v &&& ~~~((1 : Word64) <<< b)

/-- Masking test: `(v & m) == m`. -/
def allSet (v m : Word64) : Bool := v &&& m == m

/-- Masking set: `v | m`. -/
def orMask (v m : Word64) : Word64 := v ||| m

/-- 32-bit masking clear: `d & ~m`. -/
def clearMask32 (d m : Word32) : Word32 := d &&& ~~~m

/-- `v[31:0]`. -/
def lo32 (v : Word64) : Word32 := v.extractLsb' 0 32

/-- `v[63:32]`. -/
def hi32 (v : Word64) : Word32 := v.extractLsb' 32 32

/-- `hi ++ lo`, HIGH in the upper half (00_scope.md R9, 20_memory.md R54). -/
def joinWords (hi lo : Word32) : Word64 := hi ++ lo

/-- `zext_64` of a 32-bit word (00_scope.md R9). -/
def zext64 (w : Word32) : Word64 := w.setWidth 64

/-- `zext_64` of a Boolean: 1 for true, 0 for false (00_scope.md R9). -/
def boolWord (x : Bool) : Word64 := if x then 1 else 0

/-! ### Field positions (00_scope.md R6) and their readings (41_codec.md R105) -/

/-- `REQ_MASK = (1 << 15) | (1 << 47)` (42_msr_reconcile.md R120). -/
def reqMask : Word64 := ((1 : Word64) <<< 15) ||| ((1 : Word64) <<< 47)

/-- PL1_ENABLE of the MSR image, bit 15 (41_codec.md R105). -/
def msrPl1Enabled (v : Word64) : Bool := isFieldEnabled v 15

/-- PL2_ENABLE of the MSR image, bit 47 (41_codec.md R105). -/
def msrPl2Enabled (v : Word64) : Bool := isFieldEnabled v 47

/-- PL1_ENABLE of the mirror, bit 15 of LOW (41_codec.md R105). -/
def mirrorPl1Enabled (lo : Word32) : Bool := isFieldEnabled (zext64 lo) 15

/-- PL2_ENABLE of the mirror, bit 15 of HIGH (41_codec.md R105). -/
def mirrorPl2Enabled (hi : Word32) : Bool := isFieldEnabled (zext64 hi) 15

/-- LOCK, bit 31 of HIGH (41_codec.md R105). -/
def lockBit (hi : Word32) : Bool := isFieldEnabled (zext64 hi) 31

/-- ENABLED of the MCHBAR dword, bit 0 (43_mchbar_resolve.md R140). -/
def baseEnabled (d : Word32) : Bool := isFieldEnabled (zext64 d) 0

/-- The base address in an MCHBAR dword: bit 0 cleared, the rest in place (43_mchbar_resolve.md R140, 90_conflicts.md
C1). -/
def baseOf (d : Word32) : Word64 := zext64 (clearMask32 d 0x00000001)

/-- `HIGH_WORD_OFFSET`, fixed (00_scope.md R5). -/
def highWordOffset : Word64 := 4

/-- `LOCK` set in a HIGH word (44_mmio_reconcile.md R165: "nhi = nhi | 0x8000_0000"). -/
def setLock (hi : Word32) : Word32 := hi ||| 0x80000000

/-! ### Views of the state -/

/-- `LOP`, the latched opcode (10_state.md R37). -/
def State.lop (s : State) : BitVec 4 := opField s.cmd

/-- `LPOL`, the latched policy bit (10_state.md R37). -/
def State.lpol (s : State) : Bool := polField s.cmd

/-- `LX`, the latched Boolean (10_state.md R37). -/
def State.lx (s : State) : Bool := xField s.cmd

/-- `LBIT`, the latched bit index (10_state.md R37). -/
def State.lbit (s : State) : BitVec 6 := bitField s.cmd

/-- `STATUS.BUSY`: 1 iff SEQ ≠ IDLE (10_state.md R22). -/
def State.busy (s : State) : Bool := s.seq != .idle

/-- The mirror's LOCK: UNLOCKED when MHI[31] = 0, LOCKED when MHI[31] = 1 (20_memory.md R56). -/
def State.locked (s : State) : Bool := lockBit s.mhi

/-- The address of the mirror's HIGH word as RRC computes it, modulo 2^64 (20_memory.md R78). -/
def State.highAddr (s : State) : Word64 := s.addr + highWordOffset

/-- Whether an access at `addr` reaches the mirror (20_memory.md R58). -/
def State.hitsMirror (s : State) (addr : Word64) : Bool :=
  addr == s.cfg.mirrorPa || addr == s.cfg.mirrorPa + highWordOffset

/-- The mirror word that answers at `addr`, if one does (20_memory.md R58). -/
def State.mirrorWord (s : State) (addr : Word64) : Option Word32 :=
  if addr = s.cfg.mirrorPa then some s.mlo
  else if addr = s.cfg.mirrorPa + highWordOffset then some s.mhi
  else none

/-- Whether the external writer is present: only with `EXT_WRITERS` = true (00_scope.md R8, 20_memory.md R70; log
entry 8). -/
def State.extMayWrite (s : State) : Bool := s.cfg.extWriters

/-- Whether firmware may write the target registers now: "Between power-on and the first RRC command" (20_memory.md R62;
log entry 21). -/
def State.firmwareMayWrite (s : State) : Bool := !s.commanded && !s.busy

/-! ### The host port's register numbering (10_state.md R20) -/

/-- The register at a host index; indices 11 to 15 are reserved. -/
def hostRegAt (idx : BitVec 4) : Option HostReg :=
  match idx.toNat with
  | 0  => some .cmd
  | 1  => some .status
  | 2  => some .a
  | 3  => some .r
  | 4  => some .msrin
  | 5  => some .msrimg
  | 6  => some .cfgraw
  | 7  => some .base
  | 8  => some .addr
  | 9  => some .mmioimg
  | 10 => some .newimg
  | _  => none

/-- The index of a register. -/
def HostReg.index : HostReg → BitVec 4
  | .cmd     => 0
  | .status  => 1
  | .a       => 2
  | .r       => 3
  | .msrin   => 4
  | .msrimg  => 5
  | .cfgraw  => 6
  | .base    => 7
  | .addr    => 8
  | .mmioimg => 9
  | .newimg  => 10

end Sys2Proof.Machine
end

