-- ==== Sys2Proof/Machine/Flags.lean ====
section
/-! DEFINITION. STATUS: the codes of its fields, the 32-bit word the host reads (10_state.md R22 to R28), and the
completion primitives that write it (00_scope.md R12). -/

namespace Sys2Proof.Machine

/-! ### Codes -/

/-- The code of SEQ and of STAGE (10_state.md R25). -/
def Seq.code : Seq → BitVec 4
  | .idle     => 0
  | .msrRd    => 1
  | .msrWr    => 2
  | .pciRd    => 3
  | .mmioRdLo => 4
  | .mmioRdHi => 5
  | .mmioWrLo => 6
  | .mmioWrHi => 7

/-- The code of ERR (10_state.md R26). -/
def ErrCode.code : ErrCode → BitVec 4
  | .none         => 0
  | .access       => 1
  | .baseDisabled => 2
  | .illegalCmd   => 3

/-- The code of MSR_RPT (10_state.md R27). -/
def MsrReport.code : MsrReport → BitVec 2
  | .notRun         => 0
  | .alreadyEnabled => 1
  | .written        => 2

/-- The code of MMIO_RPT (10_state.md R28). -/
def MmioReport.code : MmioReport → BitVec 3
  | .notRun                 => 0
  | .writtenLocked          => 1
  | .alreadyReconciled      => 2
  | .lockedWithLimitsActive => 3
  | .lockedCannotMirror     => 4

/-- The STATUS word, field by field from bit 31 down to bit 0 (10_state.md R22). -/
def State.statusWord (s : State) : Word32 :=
  (0 : BitVec 4) ++ s.seq.code ++ (0 : BitVec 2) ++ BitVec.ofBool s.status.mchOk ++ s.status.mmioRpt.code ++
    s.status.msrRpt.code ++ s.status.stage.code ++ s.status.err.code ++ (0 : BitVec 3) ++
    BitVec.ofBool s.status.wovr ++ BitVec.ofBool s.status.warn ++ BitVec.ofBool s.status.fatal ++
    BitVec.ofBool s.status.done ++ BitVec.ofBool s.busy

/-! ### Completion primitives (00_scope.md R12) -/

/-- `complete()`: DONE <- 1, SEQ <- IDLE. -/
def complete (s : State) : State :=
  { s with status := { s.status with done := true }, seq := .idle }

/-- `warn(code)`: WARN <- 1, MMIO_RPT <- code; the command continues. -/
def warn (code : MmioReport) (s : State) : State :=
  { s with status := { s.status with warn := true, mmioRpt := code } }

/-- `STATUS.MSR_RPT <- code` (10_state.md R27). -/
def setMsrReport (code : MsrReport) (s : State) : State :=
  { s with status := { s.status with msrRpt := code } }

/-- `STATUS.MMIO_RPT <- code` (10_state.md R28). -/
def setMmioReport (code : MmioReport) (s : State) : State :=
  { s with status := { s.status with mmioRpt := code } }

/-- `STATUS.MCH_OK <- 1` (10_state.md R29). -/
def setMchOk (s : State) : State :=
  { s with status := { s.status with mchOk := true } }

/-- `STATUS.WOVR <- 1`: a host write was dropped (10_state.md R30). -/
def setWovr (s : State) : State :=
  { s with status := { s.status with wovr := true } }

end Sys2Proof.Machine
end

