-- ==== Sys2Proof/Machine/Ops.lean ====
section
/-! DEFINITION. The named operations: acceptance, the one shared error entry, the draws and the five bus primitives
with the devices' effects, and reset. -/

namespace Sys2Proof.Machine

/-! ### Acceptance and the error entry -/

/-- The first two lines of a command acceptance (30_encoding.md R86): CMD takes the word, every stored STATUS field is
cleared. The list of the command's transactions starts empty (60_exceptions.md R225), and the time before the first
command is over (20_memory.md R62). -/
def accept (word : Word32) (s : State) : State :=
  { s with cmd := word, status := Status.clear, trace := [], commanded := true }

/-- `raise`, the one way a command ends with an error (00_scope.md R12, 60_exceptions.md R218): FATAL <- 1, ERR and
STAGE set, then `complete()`. Nothing else is saved and nothing is rolled back. There is no return from it: the next
acceptance clears STATUS (60_exceptions.md R219). -/
def raise (err : ErrCode) (stage : Seq) (s : State) : State :=
  complete { s with status := { s.status with fatal := true, err := err, stage := stage } }

/-- `raise AccessError(stage)` (00_scope.md R12). -/
def raiseAccess (stage : Seq) (s : State) : State := raise .access stage s

/-- `raise BaseRegisterDisabled()`: STAGE = PCI_RD (00_scope.md R12). -/
def raiseBaseDisabled (s : State) : State := raise .baseDisabled .pciRd s

/-- `raise IllegalCommand()`: STAGE = 0 (00_scope.md R12). -/
def raiseIllegal (s : State) : State := raise .illegalCmd .idle s

/-- `SEQ <- stage` (00_scope.md R10). -/
def goto (stage : Seq) (s : State) : State := { s with seq := stage }

/-! ### Draws -/

/-- The answer of the next transaction: the first of the state's list, or, when that is empty, a free value
(20_memory.md R59 to R65; log entry 4). -/
def nextDraw (s : State) : Config.Draw :=
  match s.draws with
  | []     => Config.freeDraw s.drawCtr
  | d :: _ => d

/-- The state after `nextDraw` has been used. -/
def dropDraw (s : State) : State :=
  match s.draws with
  | []      => { s with drawCtr := s.drawCtr + 1 }
  | _ :: ds => { s with draws := ds }

/-- A completed transaction is appended to the command's list (60_exceptions.md R225). -/
def record (stage : Seq) (req : Request) (resp : Response) (s : State) : State :=
  { s with trace := s.trace ++ [⟨stage, req, resp⟩] }

/-! ### Device effects -/

/-- A performed 32-bit write at `addr`: at the mirror, the table of 20_memory.md R57 (while LOCKED, nothing); elsewhere
a recorded stray write (R58). -/
def performMemWrite (addr : Word64) (w : Word32) (s : State) : State :=
  if addr = s.cfg.mirrorPa then
    if s.locked then s else { s with mlo := w }
  else if addr = s.cfg.mirrorPa + highWordOffset then
    if s.locked then s else { s with mhi := w }
  else { s with stray := s.stray ++ [(addr, w)] }

/-- A performed MSR write (20_memory.md R64). -/
def performMsrWrite (v : Word64) (s : State) : State := { s with msr := v }

/-- What an MSR write that answered `err` does: nothing, or all of it, a draw (20_memory.md R64). -/
def landMsrWrite (landed : Bool) (v : Word64) (s : State) : State :=
  if landed then performMsrWrite v s else s

/-- What a memory write that answered `err` does: at the mirror nothing, or all of it, a draw (20_memory.md R60, R61);
a write that misses the mirror is recorded whatever the answer (R58). -/
def landMemWrite (landed : Bool) (addr : Word64) (w : Word32) (s : State) : State :=
  if landed || !s.hitsMirror addr then performMemWrite addr w s else s

/-! ### Bus primitives (00_scope.md R11) -/

/-- What the controller gets from a primitive (00_scope.md R13), with the state after it; `waiting`: no response yet
(20_memory.md R65). -/
inductive Answer (α : Type) where
  | ok (v : α) (s : State)
  | err (s : State)
  | waiting (s : State)
deriving DecidableEq, Repr

/-- `MsrRead(MSR_INDEX)` (20_memory.md R64). -/
def msrRead (stage : Seq) (s : State) : Answer Word64 :=
  match nextDraw s with
  | .ok _     => .ok s.msr (record stage (.msrRead s.cfg.msrIndex) (.value64 s.msr) (dropDraw s))
  | .err _    => .err (record stage (.msrRead s.cfg.msrIndex) .err (dropDraw s))
  | .noAnswer => .waiting (dropDraw s)

/-- `MsrWrite(MSR_INDEX, v)`: after `err` the MSR is old or `v`, a draw (20_memory.md R64). -/
def msrWrite (stage : Seq) (v : Word64) (s : State) : Answer Unit :=
  match nextDraw s with
  | .ok _       => .ok () (record stage (.msrWrite s.cfg.msrIndex v) .ok (performMsrWrite v (dropDraw s)))
  | .err landed =>
    .err (record stage (.msrWrite s.cfg.msrIndex v) .err (landMsrWrite landed v (dropDraw s)))
  | .noAnswer   => .waiting (dropDraw s)

/-- The word a read at `addr` returns when it answers `ok`: the mirror's, or any word elsewhere (20_memory.md R58,
R59). -/
def memReadValue (addr : Word64) (any : Word32) (s : State) : Word32 := (s.mirrorWord addr).getD any

/-- `MemRead(addr, 4)` (20_memory.md R58, R59). -/
def memRead (stage : Seq) (addr : Word64) (s : State) : Answer Word32 :=
  match nextDraw s with
  | .ok any   =>
    .ok (memReadValue addr any s) (record stage (.memRead addr) (.value32 (memReadValue addr any s)) (dropDraw s))
  | .err _    => .err (record stage (.memRead addr) .err (dropDraw s))
  | .noAnswer => .waiting (dropDraw s)

/-- `MemWrite(addr, 4, w)`: after `err` the mirror word is old or `w`, a draw (20_memory.md R60; R61 while LOCKED); a
write that misses the mirror is recorded whatever the answer (R58). -/
def memWrite (stage : Seq) (addr : Word64) (w : Word32) (s : State) : Answer Unit :=
  match nextDraw s with
  | .ok _       => .ok () (record stage (.memWrite addr w) .ok (performMemWrite addr w (dropDraw s)))
  | .err landed =>
    .err (record stage (.memWrite addr w) .err (landMemWrite landed addr w (dropDraw s)))
  | .noAnswer   => .waiting (dropDraw s)

/-- `PciRead(PCI_BUS, PCI_DEV, PCI_FN, PCI_OFF)` (20_memory.md R63). -/
def pciRead (stage : Seq) (s : State) : Answer Word32 :=
  match nextDraw s with
  | .ok _     =>
    .ok s.pci (record stage (.pciRead s.cfg.pciBus s.cfg.pciDev s.cfg.pciFn s.cfg.pciOff) (.value32 s.pci) (dropDraw s))
  | .err _    =>
    .err (record stage (.pciRead s.cfg.pciBus s.cfg.pciDev s.cfg.pciFn s.cfg.pciOff) .err (dropDraw s))
  | .noAnswer => .waiting (dropDraw s)

/-! ### Reset, power-on and the other writers -/

/-- Every RRC register at its reset value, the hidden state too (10_state.md R40). The list of a command's transactions
is empty: no command has been accepted. -/
def resetRegisters (s : State) : State :=
  { s with
    cmd := 0, status := Status.clear, a := 0, r := 0, msrin := 0, msrimg := 0, cfgraw := 0, base := 0, addr := 0
    mmioimg := 0, newimg := 0, seq := .idle, tlo := 0, trace := [] }

/-- The write a reset abandons, when the device performed it (70_reset_and_hazards.md R240): the one SEQ names. DESIGN
CHOICE (log entry 22): R240 gives only performed or not, and lets the response arrive after the reset; the model performs
the write in the reset's own step and never later. -/
def landOutstandingWrite (s : State) : State :=
  match s.seq with
  | .msrWr    => performMsrWrite (orMask s.msrin reqMask) s
  | .mmioWrLo => performMemWrite s.addr (lo32 s.newimg) s
  | .mmioWrHi => performMemWrite s.highAddr (hi32 s.newimg) s
  | .idle | .msrRd | .pciRd | .mmioRdLo | .mmioRdHi => s

/-- Block reset (70_reset_and_hazards.md R240, R241): RRC's registers reset; the devices keep their state, but for an
outstanding write, whose effect is a draw. -/
def blockReset (landed : Bool) (s : State) : State :=
  resetRegisters (if landed then landOutstandingWrite s else s)

/-- Power-on (70_reset_and_hazards.md R242): RRC resets, the mirror is UNLOCKED, every other device bit is drawn, and no
command has been accepted yet. -/
def powerOn (landed : Bool) (msr : Word64) (mlo mhi pci : Word32) (s : State) : State :=
  { blockReset landed s with msr := msr, mlo := mlo, mhi := mhi &&& 0x7FFFFFFF, pci := pci, commanded := false }

/-- A write of the mirror's HIGH (`high`) or LOW word by an agent other than RRC, "subject to the device rules"
(20_memory.md R57, R70). -/
def performMirrorWrite (high : Bool) (w : Word32) (s : State) : State :=
  performMemWrite (if high then s.cfg.mirrorPa + highWordOffset else s.cfg.mirrorPa) w s

/-- The external writer's MSR write (20_memory.md R70); without `EXT_WRITERS` that agent is absent (00_scope.md R8), and
its turn changes nothing. -/
def extMsrWrite (v : Word64) (s : State) : State :=
  if s.extMayWrite then performMsrWrite v s else s

/-- The external writer's mirror write (20_memory.md R70), as `extMsrWrite`. -/
def extMirrorWrite (high : Bool) (w : Word32) (s : State) : State :=
  if s.extMayWrite then performMirrorWrite high w s else s

/-- Firmware's MSR write before the first command (70_reset_and_hazards.md R242); after it the turn changes nothing. -/
def firmwareMsrWrite (v : Word64) (s : State) : State :=
  if s.firmwareMayWrite then performMsrWrite v s else s

/-- Firmware's mirror write before the first command, which may lock it (20_memory.md R62), as `firmwareMsrWrite`. -/
def firmwareMirrorWrite (high : Bool) (w : Word32) (s : State) : State :=
  if s.firmwareMayWrite then performMirrorWrite high w s else s

/-- The platform changes the PCI dword: between commands only, "D does not change during a run" (20_memory.md R63). -/
def platformPci (d : Word32) (s : State) : State :=
  if s.busy then s else { s with pci := d }

end Sys2Proof.Machine
end

