-- ==== Sys2Proof/Machine/Codec.lean ====
section
/-! DEFINITION. The codec commands TESTF and WITHF (41_codec.md R103, R104). Both complete in the acceptance step
(30_encoding.md R86); no stage of the table of 10_state.md R36 is theirs. -/

namespace Sys2Proof.Machine

/-- `TESTF b`: `R <- zext_64(isFieldEnabled(A, LBIT)); complete()` (41_codec.md R103). -/
def execTestf (b : Nat) (s : State) : Host.Outcome State Fault Refusal :=
  match s.seq with
  | .idle => .next (complete { accept (encode (.testf b)) s with r := boolWord (isFieldEnabled s.a b) })
  | .msrRd | .msrWr | .pciRd | .mmioRdLo | .mmioRdHi | .mmioWrLo | .mmioWrHi => .fault .noStageRule

/-- `WITHF b, x`: `R <- withField(A, LBIT, LX == 1); complete()` (41_codec.md R104). -/
def execWithf (b : Nat) (x : Bool) (s : State) : Host.Outcome State Fault Refusal :=
  match s.seq with
  | .idle => .next (complete { accept (encode (.withf b x)) s with r := withField s.a b x })
  | .msrRd | .msrWr | .pciRd | .mmioRdLo | .mmioRdHi | .mmioWrLo | .mmioWrHi => .fault .noStageRule

end Sys2Proof.Machine
end

