-- ==== Sys2Proof/Machine/MchbarResolve.lean ====
section
/-! DEFINITION. Base-address resolve: the stage PCI_RD (43_mchbar_resolve.md R142), shared by MCHRS and RUN, and the
command MCHRS (R141). -/

namespace Sys2Proof.Machine

/-- The PCI_RD stage (43_mchbar_resolve.md R142); `done` is `mch_stage_done()` of the running command (R143). -/
def stagePciRd (done : State → State) (s : State) : State :=
  match pciRead .pciRd s with
  | .waiting s₁ => s₁
  | .err s₁     => raiseAccess .pciRd s₁
  | .ok d s₁    =>
    if baseEnabled d then
      done (setMchOk { s₁ with cfgraw := d, base := baseOf d, addr := baseOf d + s.cfg.mmioOffset })
    else raiseBaseDisabled { s₁ with cfgraw := d }

/-- `MCHRS` (43_mchbar_resolve.md R141): accepted with SEQ <- PCI_RD (30_encoding.md R86), then its one stage;
`mch_stage_done()` is `complete()` (R143). -/
def execMchrs (s : State) : Host.Outcome State Fault Refusal :=
  match s.seq with
  | .idle  => .next (goto .pciRd (accept (encode .mchrs) s))
  | .pciRd => .next (stagePciRd complete s)
  | .msrRd | .msrWr | .mmioRdLo | .mmioRdHi | .mmioWrLo | .mmioWrHi => .fault .noStageRule

end Sys2Proof.Machine
end

