-- ==== Sys2Proof/Machine/MmioReconcile.lean ====
section
/-! DEFINITION. MMIO reconcile: the stages MMIO_RD_LO, MMIO_RD_HI, MMIO_WR_LO and MMIO_WR_HI (44_mmio_reconcile.md R163
to R170), shared by MMIORC and RUN, and the command MMIORC (R162). -/

namespace Sys2Proof.Machine

/-- The MMIO_RD_LO stage (44_mmio_reconcile.md R163). -/
def stageMmioRdLo (s : State) : State :=
  match memRead .mmioRdLo s.addr s with
  | .waiting s₁ => s₁
  | .err s₁     => raiseAccess .mmioRdLo s₁
  | .ok lo s₁   => goto .mmioRdHi { s₁ with tlo := lo }

/-- `anyEnabled = PL1_ENABLE(LOW) or PL2_ENABLE(HIGH)` (44_mmio_reconcile.md R166). -/
def anyEnabled (lo hi : Word32) : Bool := mirrorPl1Enabled lo || mirrorPl2Enabled hi

/-- `locked_outcome(lo, hi)` (44_mmio_reconcile.md R166 to R168): a report, then `complete()`; no write. -/
def lockedOutcome (p : Policy) (lo hi : Word32) (s : State) : State :=
  if anyEnabled lo hi then complete (warn .lockedWithLimitsActive s)
  else match p with
    | .disable => complete (setMmioReport .alreadyReconciled s)
    | .mirror  => complete (warn .lockedCannotMirror s)

/-- The image the write path writes (44_mmio_reconcile.md R165): zero or the MSR image, with LOCK set. -/
def writeImage (p : Policy) (msrimg : Word64) : Word64 :=
  match p with
  | .disable => joinWords (setLock 0x00000000) 0x00000000
  | .mirror  => joinWords (setLock (hi32 msrimg)) (lo32 msrimg)

/-- `unlocked_prepare()` (44_mmio_reconcile.md R165). -/
def unlockedPrepare (p : Policy) (s : State) : State :=
  goto .mmioWrLo { s with newimg := writeImage p s.msrimg }

/-- The MMIO_RD_HI stage (44_mmio_reconcile.md R164). -/
def stageMmioRdHi (p : Policy) (s : State) : State :=
  match memRead .mmioRdHi s.highAddr s with
  | .waiting s₁ => s₁
  | .err s₁     => raiseAccess .mmioRdHi s₁
  | .ok hi s₁   =>
    if lockBit hi then lockedOutcome p s.tlo hi { s₁ with mmioimg := joinWords hi s.tlo }
    else unlockedPrepare p { s₁ with mmioimg := joinWords hi s.tlo }

/-- The MMIO_WR_LO stage (44_mmio_reconcile.md R169). -/
def stageMmioWrLo (s : State) : State :=
  match memWrite .mmioWrLo s.addr (lo32 s.newimg) s with
  | .waiting s₁ => s₁
  | .err s₁     => raiseAccess .mmioWrLo s₁
  | .ok _ s₁    => goto .mmioWrHi s₁

/-- The MMIO_WR_HI stage (44_mmio_reconcile.md R170); `mmio_stage_done()` is `complete()` for MMIORC and RUN alike
(R171). -/
def stageMmioWrHi (s : State) : State :=
  match memWrite .mmioWrHi s.highAddr (hi32 s.newimg) s with
  | .waiting s₁ => s₁
  | .err s₁     => raiseAccess .mmioWrHi s₁
  | .ok _ s₁    => complete (setMmioReport .writtenLocked s₁)

/-- `MMIORC DISABLE` / `MMIORC MIRROR` (44_mmio_reconcile.md R162): accepted with SEQ <- MMIO_RD_LO (30_encoding.md
R86), then one stage a step. -/
def execMmiorc (p : Policy) (s : State) : Host.Outcome State Fault Refusal :=
  match s.seq with
  | .idle     => .next (goto .mmioRdLo (accept (encode (.mmiorc p)) s))
  | .mmioRdLo => .next (stageMmioRdLo s)
  | .mmioRdHi => .next (stageMmioRdHi p s)
  | .mmioWrLo => .next (stageMmioWrLo s)
  | .mmioWrHi => .next (stageMmioWrHi s)
  | .msrRd | .msrWr | .pciRd => .fault .noStageRule

end Sys2Proof.Machine
end

