-- ==== Sys2Proof/Machine/MsrReconcile.lean ====
section
/-! DEFINITION. MSR reconcile: the stages MSR_RD and MSR_WR (42_msr_reconcile.md R122, R123), shared by MSRRC and RUN,
and the command MSRRC (R121). -/

namespace Sys2Proof.Machine

/-- The MSR_RD stage (42_msr_reconcile.md R122); `done` is `msr_stage_done()` of the running command (R124). -/
def stageMsrRd (done : State → State) (s : State) : State :=
  match msrRead .msrRd s with
  | .waiting s₁ => s₁
  | .err s₁     => raiseAccess .msrRd s₁
  | .ok v s₁    =>
    if allSet v reqMask then done (setMsrReport .alreadyEnabled { s₁ with msrin := v, msrimg := v })
    else goto .msrWr { s₁ with msrin := v }

/-- The MSR_WR stage (42_msr_reconcile.md R123); `done` as in `stageMsrRd`. -/
def stageMsrWr (done : State → State) (s : State) : State :=
  match msrWrite .msrWr (orMask s.msrin reqMask) s with
  | .waiting s₁ => s₁
  | .err s₁     => raiseAccess .msrWr s₁
  | .ok _ s₁    => done (setMsrReport .written { s₁ with msrimg := orMask s.msrin reqMask })

/-- `MSRRC` (42_msr_reconcile.md R121): accepted with SEQ <- MSR_RD (30_encoding.md R86), then one stage a step;
`msr_stage_done()` is `complete()` (R124). -/
def execMsrrc (s : State) : Host.Outcome State Fault Refusal :=
  match s.seq with
  | .idle  => .next (goto .msrRd (accept (encode .msrrc) s))
  | .msrRd => .next (stageMsrRd complete s)
  | .msrWr => .next (stageMsrWr complete s)
  | .pciRd | .mmioRdLo | .mmioRdHi | .mmioWrLo | .mmioWrHi => .fault .noStageRule

end Sys2Proof.Machine
end

