-- ==== Sys2Proof/Machine/Sequence.lean ====
section
/-! DEFINITION. The reconcile sequence RUN (45_sequence.md R190): the stages of MSRRC, MCHRS and MMIORC in a row. -/

namespace Sys2Proof.Machine

/-- `RUN DISABLE` / `RUN MIRROR` (45_sequence.md R190): accepted with SEQ <- MSR_RD (30_encoding.md R86), then one stage
a step. `msr_stage_done()` is `SEQ <- PCI_RD` (R191), `mch_stage_done()` is `SEQ <- MMIO_RD_LO` (R192), and the MMIO part
completes the command (R193). -/
def execRun (p : Policy) (s : State) : Host.Outcome State Fault Refusal :=
  match s.seq with
  | .idle     => .next (goto .msrRd (accept (encode (.run p)) s))
  | .msrRd    => .next (stageMsrRd (goto .pciRd) s)
  | .msrWr    => .next (stageMsrWr (goto .pciRd) s)
  | .pciRd    => .next (stagePciRd (goto .mmioRdLo) s)
  | .mmioRdLo => .next (stageMmioRdLo s)
  | .mmioRdHi => .next (stageMmioRdHi p s)
  | .mmioWrLo => .next (stageMmioWrLo s)
  | .mmioWrHi => .next (stageMmioWrHi s)

end Sys2Proof.Machine
end

