-- ==== Sys2Proof/Machine/Dispatch.lean ====
section
/-! DEFINITION. One arm per command: what a command does in one step. With SEQ = IDLE that is its acceptance
(30_encoding.md R86); otherwise it is the stage SEQ names, from the command's column of the table of 10_state.md R36. -/

namespace Sys2Proof.Machine

def exec (i : Instr) (s : State) : Host.Outcome State Fault Refusal :=
  match i with
  | .testf b => Sys2Proof.Machine.execTestf b s
  | .withf b x => Sys2Proof.Machine.execWithf b x s
  | .msrrc => Sys2Proof.Machine.execMsrrc s
  | .mchrs => Sys2Proof.Machine.execMchrs s
  | .mmiorc p => Sys2Proof.Machine.execMmiorc p s
  | .run p => Sys2Proof.Machine.execRun p s

end Sys2Proof.Machine
end

