-- ==== Sys2Proof/Machine/HostPort.lean ====
section
/-! DEFINITION. The host port (60_exceptions.md R220 to R227), command issue (30_encoding.md R86), and the turns of the
agents (00_scope.md R8). -/

namespace Sys2Proof.Machine

/-! ### The host port -/

/-- A register as the host reads it, zero-extended to 64 bits (10_state.md R20). -/
def regRead (s : State) : HostReg → Word64
  | .cmd     => zext64 s.cmd
  | .status  => zext64 s.statusWord
  | .a       => s.a
  | .r       => s.r
  | .msrin   => s.msrin
  | .msrimg  => s.msrimg
  | .cfgraw  => zext64 s.cfgraw
  | .base    => s.base
  | .addr    => s.addr
  | .mmioimg => s.mmioimg
  | .newimg  => s.newimg

/-- `HostRead(idx)` returns the register, or 0 for a reserved index (60_exceptions.md R221). -/
def hostReadValue (idx : BitVec 4) (s : State) : Word64 :=
  match hostRegAt idx with
  | some reg => regRead s reg
  | none     => 0

/-- `HostRead(idx)` as a step of the host: the returned value reaches the host; RRC is unchanged (60_exceptions.md
R221). -/
def hostRead (idx : BitVec 4) (s : State) : State := { s with rdData := hostReadValue idx s }

/-- An illegal word is "accepted like any other" and completes at once (30_encoding.md R85, R86). -/
def acceptIllegal (word : Word32) (s : State) : State := raiseIllegal (accept word s)

/-- A write to CMD while SEQ = IDLE (30_encoding.md R86): the command the word encodes, or IllegalCommand. -/
def issueWord (word : Word32) (s : State) : Host.Outcome State Fault Refusal :=
  match decode word with
  | .ok i    => exec i s
  | .error _ => .next (acceptIllegal word s)

/-- `HostWrite(idx, v)`: 60_exceptions.md R222 while BUSY = 0, R227 while BUSY = 1, R226 for read-only registers and
reserved indices. A CMD write takes `v[31:0]` (10_state.md R21). -/
def hostWrite (idx : BitVec 4) (v : Word64) (s : State) : Host.Outcome State Fault Refusal :=
  match hostRegAt idx with
  | some .cmd    => if s.busy then .next (setWovr s) else issueWord (lo32 v) s
  | some .a      => if s.busy then .next (setWovr s) else .next { s with a := v }
  | some .msrimg => if s.busy then .next (setWovr s) else .next { s with msrimg := v }
  | some .addr   => if s.busy then .next (setWovr s) else .next { s with addr := v }
  | some .status | some .r | some .msrin | some .cfgraw | some .base | some .mmioimg | some .newimg => .next s
  | none         => .next s

/-! ### The host's program (30_encoding.md R89) -/

/-- One poll of `WAIT`: read STATUS; while STATUS.BUSY = 1 the `WAIT` stays the next operation (30_encoding.md R89). -/
def hostPoll (s : State) : State :=
  let s₁ := hostRead HostReg.status.index s
  if isFieldEnabled s₁.rdData 0 then { s₁ with program := .wait :: s₁.program } else s₁

/-- One operation of a host program, expanded as 30_encoding.md R89 gives it; the operation has been taken off the
program. -/
def hostOperation (op : HostOp) (s : State) : Host.Outcome State Fault Refusal :=
  match op with
  | .wr idx v => hostWrite idx v s
  | .rd idx   => .next (hostRead idx s)
  | .issue i  => hostWrite HostReg.cmd.index (zext64 (encode i)) s
  | .wait     => .next (hostPoll s)
  | .doCmd i  => hostWrite HostReg.cmd.index (zext64 (encode i)) { s with program := .wait :: s.program }

/-- The host's turn: the next operation of its program, if one is left. -/
def hostTurn (s : State) : Host.Outcome State Fault Refusal :=
  match s.program with
  | []       => .next s
  | op :: ps => hostOperation op { s with program := ps }

/-! ### The controller's turn -/

/-- The controller's turn (10_state.md R36): it has a step exactly when SEQ ≠ IDLE, the stage SEQ names of the command
in CMD (R37). -/
def controllerTurn (s : State) : Host.Outcome State Fault Refusal :=
  if s.busy then
    match decode s.cmd with
    | .ok i    => exec i s
    | .error _ => .fault .noStageRule
  else .next s

/-! ### Whose turn it is -/

/-- One agent's turn (00_scope.md R8); the turn has been taken off the schedule. -/
def takeTurn (t : Turn) (s : State) : Host.Outcome State Fault Refusal :=
  match t with
  | .controller                    => controllerTurn s
  | .host                          => hostTurn s
  | .blockReset landed             => .next (blockReset landed s)
  | .powerOn landed msr mlo mhi pci => .next (powerOn landed msr mlo mhi pci s)
  | .extMsrWrite v                 => .next (extMsrWrite v s)
  | .extMirrorWrite high w         => .next (extMirrorWrite high w s)
  | .firmwareMsrWrite v            => .next (firmwareMsrWrite v s)
  | .firmwareMirrorWrite high w    => .next (firmwareMirrorWrite high w s)
  | .platformPci d                 => .next (platformPci d s)

/-- The agent that moves: the first of the schedule; when the schedule is empty, the controller while a command runs and
the host otherwise, which is the host that keeps its duty to wait (60_exceptions.md R223; log entry 6). -/
def nextTurn (s : State) : Turn :=
  match s.turns with
  | t :: _ => t
  | []     => if s.busy then .controller else .host

/-- The state with the turn taken off the schedule. -/
def dropTurn (s : State) : State := { s with turns := s.turns.tail }

/-- One step of the machine: one atomic step of one agent (10_state.md R36, 60_exceptions.md R216). -/
def stepAgents (s : State) : Host.Outcome State Fault Refusal := takeTurn (nextTurn s) (dropTurn s)

/-- The state in which the host is about to write a word to CMD and RRC can accept it: SEQ = IDLE, the write the first
operation of the host's program, the host's turn. -/
def placeCommand (word : Word32) (s : State) : State :=
  { s with seq := .idle, turns := .host :: s.turns, program := .wr HostReg.cmd.index (zext64 word) :: s.program }

end Sys2Proof.Machine
end

