-- ==== Sys2Proof/Machine/Step.lean ====
section
/-! DEFINITION. The machine's step, and the state whose next step runs a given word. -/

namespace Sys2Proof.Machine

/-- One step of the machine: the next agent's turn (00_scope.md R8, 10_state.md R36). -/
def step (s : State) : Host.Outcome State Fault Refusal := stepAgents s

/-- `s` with the word about to be written to CMD by the host (30_encoding.md R86): RRC fetches no instructions
(20_memory.md R73), so a command reaches it only so. -/
def State.withFetchWord (s : State) (nbits w : Nat) : State :=
  placeCommand (BitVec.ofNat 32 (w % 2 ^ nbits)) s

end Sys2Proof.Machine
end

