-- ==== Sys2Proof/Machine/Assembler.lean ====
section
/-! DEFINITION. The assembler: text of commands (30_encoding.md R88) and of host programs (R89), over lists of
characters so that the kernel can evaluate it. A line the rules do not admit gives `none`. -/

namespace Sys2Proof.Machine

/-! ### Characters and fields of a line -/

/-- The text before a `;`, which starts a comment (30_encoding.md R88). -/
def stripComment : List Char → List Char
  | []      => []
  | c :: cs => if c = ';' then [] else c :: stripComment cs

/-- White space inside a line. -/
def isBlank (c : Char) : Bool := c = ' ' || c = '\t' || c = '\r'

/-- Text without leading and trailing white space. -/
def trimText (cs : List Char) : List Char :=
  ((cs.dropWhile isBlank).reverse.dropWhile isBlank).reverse

/-- The first word of a line, and the rest. -/
def splitWord (cs : List Char) : List Char × List Char :=
  let t := trimText cs
  (t.takeWhile (fun c => !isBlank c), trimText (t.dropWhile (fun c => !isBlank c)))

/-- The text between commas, one entry for each. -/
def splitCommas : List Char → List (List Char)
  | []      => [[]]
  | c :: cs =>
    match splitCommas cs with
    | []      => [[c]]
    | f :: fs => if c = ',' then [] :: f :: fs else (c :: f) :: fs

/-- The operands of a line: separated by commas (30_encoding.md R88); none when nothing is left. -/
def operandsOf (cs : List Char) : List (List Char) :=
  if trimText cs = [] then [] else (splitCommas cs).map trimText

/-! ### Numbers, Booleans, policies and registers -/

/-- A decimal digit's value. -/
def decDigit (c : Char) : Option Nat :=
  if 48 ≤ c.toNat ∧ c.toNat ≤ 57 then some (c.toNat - 48) else none

/-- A hexadecimal digit's value. -/
def hexDigit (c : Char) : Option Nat :=
  if 48 ≤ c.toNat ∧ c.toNat ≤ 57 then some (c.toNat - 48)
  else if 65 ≤ c.toNat ∧ c.toNat ≤ 70 then some (c.toNat - 55)
  else if 97 ≤ c.toNat ∧ c.toNat ≤ 102 then some (c.toNat - 87)
  else none

/-- The value of a run of digits after `acc`. -/
def digitsFrom (base : Nat) (digit : Char → Option Nat) : List Char → Nat → Option Nat
  | [],      acc => some acc
  | c :: cs, acc =>
    match digit c with
    | some d => digitsFrom base digit cs (acc * base + d)
    | none   => none

/-- A decimal or `0x` hexadecimal number (30_encoding.md R88); hexadecimal literals may carry `_` separators
(00_scope.md R9). -/
def parseNumber (cs : List Char) : Option Nat :=
  match cs with
  | '0' :: 'x' :: ds =>
    match ds.filter (fun c => c != '_') with
    | [] => none
    | hs => digitsFrom 16 hexDigit hs 0
  | [] => none
  | ds => digitsFrom 10 decDigit ds 0

/-- A bit index: "An assembler refuses a bit index outside 0 to 63" (30_encoding.md R88). -/
def parseBit (cs : List Char) : Option Nat :=
  match parseNumber cs with
  | some b => if b ≤ 63 then some b else none
  | none   => none

/-- A Boolean is `0` or `1` (30_encoding.md R88). -/
def parseBool (cs : List Char) : Option Bool :=
  match cs with
  | ['0'] => some false
  | ['1'] => some true
  | _     => none

/-- A policy is `DISABLE` or `MIRROR` (30_encoding.md R88). -/
def parsePolicy (cs : List Char) : Option Policy :=
  if cs = ['D', 'I', 'S', 'A', 'B', 'L', 'E'] then some .disable
  else if cs = ['M', 'I', 'R', 'R', 'O', 'R'] then some .mirror
  else none

/-- The names of the host registers and their indices (10_state.md R20). -/
def registerNames : List (List Char × BitVec 4) := [
  (['C', 'M', 'D'], 0), (['S', 'T', 'A', 'T', 'U', 'S'], 1), (['A'], 2), (['R'], 3),
  (['M', 'S', 'R', 'I', 'N'], 4), (['M', 'S', 'R', 'I', 'M', 'G'], 5), (['C', 'F', 'G', 'R', 'A', 'W'], 6),
  (['B', 'A', 'S', 'E'], 7), (['A', 'D', 'D', 'R'], 8), (['M', 'M', 'I', 'O', 'I', 'M', 'G'], 9),
  (['N', 'E', 'W', 'I', 'M', 'G'], 10)]

/-- A register's "index or name" (30_encoding.md R89). -/
def parseRegister (cs : List Char) : Option (BitVec 4) :=
  match registerNames.find? (fun p => p.1 = cs) with
  | some p => some p.2
  | none   =>
    match parseNumber cs with
    | some n => if n ≤ 15 then some (BitVec.ofNat 4 n) else none
    | none   => none

/-- A 64-bit immediate (30_encoding.md R89). -/
def parseImmediate (cs : List Char) : Option Word64 :=
  match parseNumber cs with
  | some n => if n < 2 ^ 64 then some (BitVec.ofNat 64 n) else none
  | none   => none

/-! ### Lines -/

/-- A command from its mnemonic and operands (30_encoding.md R88). -/
def commandFrom (mnemonic : List Char) (operands : List (List Char)) : Option Instr :=
  match operands with
  | [] =>
    if mnemonic = ['M', 'S', 'R', 'R', 'C'] then some .msrrc
    else if mnemonic = ['M', 'C', 'H', 'R', 'S'] then some .mchrs
    else none
  | [x] =>
    if mnemonic = ['T', 'E', 'S', 'T', 'F'] then (parseBit x).map .testf
    else if mnemonic = ['M', 'M', 'I', 'O', 'R', 'C'] then (parsePolicy x).map .mmiorc
    else if mnemonic = ['R', 'U', 'N'] then (parsePolicy x).map .run
    else none
  | [b, x] =>
    if mnemonic = ['W', 'I', 'T', 'H', 'F'] then
      match parseBit b, parseBool x with
      | some b, some x => some (.withf b x)
      | _, _ => none
    else none
  | _ :: _ :: _ :: _ => none

/-- A line in the command syntax of 30_encoding.md R88. -/
def parseCommand (line : List Char) : Option Instr :=
  let w := splitWord (stripComment line)
  commandFrom w.1 (operandsOf w.2)

/-- A line in the host-program syntax of 30_encoding.md R89. -/
def parseHostOp (line : List Char) : Option HostOp :=
  let w := splitWord (stripComment line)
  if w.1 = ['W', 'R'] then
    match operandsOf w.2 with
    | [reg, imm] =>
      match parseRegister reg, parseImmediate imm with
      | some idx, some v => some (.wr idx v)
      | _, _ => none
    | _ => none
  else if w.1 = ['R', 'D'] then
    match operandsOf w.2 with
    | [reg] => (parseRegister reg).map .rd
    | _     => none
  else if w.1 = ['I', 'S', 'S', 'U', 'E'] then (parseCommand w.2).map .issue
  else if w.1 = ['W', 'A', 'I', 'T'] then (if w.2 = [] then some .wait else none)
  else if w.1 = ['D', 'O'] then (parseCommand w.2).map .doCmd
  else none

/-- A host program, one operation a line; a line that holds only white space or a comment is skipped. -/
def parseProgram : List (List Char) → Option (List HostOp)
  | []      => some []
  | l :: ls =>
    if trimText (stripComment l) = [] then parseProgram ls
    else
      match parseHostOp l, parseProgram ls with
      | some op, some ops => some (op :: ops)
      | _, _ => none

end Sys2Proof.Machine
end

