-- ==== Sys2Proof/Machine/Whole.lean ====
section
/-! DEFINITION. Each command's "whole effect, as one pseudocode" (42_msr_reconcile.md R121, 43_mchbar_resolve.md R142,
44_mmio_reconcile.md R162, 45_sequence.md R190), from acceptance to completion. The stage rules are normative; these
compositions are what a run of `step` is compared with. -/

namespace Sys2Proof.Machine

/-- How one part of a command ends: with the command over (completed or aborted), or going on to the next part. -/
inductive PartResult where
  | ended (s : State)
  | goesOn (s : State)
deriving DecidableEq, Repr

/-- The part after another; an ended command has no later part (45_sequence.md R194). -/
def PartResult.andThen (p : PartResult) (f : State → PartResult) : PartResult :=
  match p with
  | .ended s  => .ended s
  | .goesOn s => f s

/-- The state a command leaves: `complete()` after its last part (45_sequence.md R190). -/
def PartResult.finish : PartResult → State
  | .ended s  => s
  | .goesOn s => complete s

/-- The MSR part: "read, then at most one write" (42_msr_reconcile.md R121). -/
def msrPart (s : State) : PartResult :=
  match msrRead .msrRd s with
  | .waiting s₁ => .ended s₁
  | .err s₁     => .ended (raiseAccess .msrRd s₁)
  | .ok v s₁    =>
    if allSet v reqMask then .goesOn (setMsrReport .alreadyEnabled { s₁ with msrin := v, msrimg := v })
    else
      match msrWrite .msrWr (orMask v reqMask) { s₁ with msrin := v } with
      | .waiting s₂ => .ended s₂
      | .err s₂     => .ended (raiseAccess .msrWr s₂)
      | .ok _ s₂    => .goesOn (setMsrReport .written { s₂ with msrimg := orMask v reqMask })

/-- The PCI part (43_mchbar_resolve.md R142). -/
def pciPart (s : State) : PartResult :=
  match pciRead .pciRd s with
  | .waiting s₁ => .ended s₁
  | .err s₁     => .ended (raiseAccess .pciRd s₁)
  | .ok d s₁    =>
    if baseEnabled d then
      .goesOn (setMchOk { s₁ with cfgraw := d, base := baseOf d, addr := baseOf d + s.cfg.mmioOffset })
    else .ended (raiseBaseDisabled { s₁ with cfgraw := d })

/-- The two word writes of the MMIO part, LOW then HIGH (44_mmio_reconcile.md R162). -/
def mmioWrites (s : State) : PartResult :=
  match memWrite .mmioWrLo s.addr (lo32 s.newimg) s with
  | .waiting s₁ => .ended s₁
  | .err s₁     => .ended (raiseAccess .mmioWrLo s₁)
  | .ok _ s₁    =>
    match memWrite .mmioWrHi s.highAddr (hi32 s.newimg) s₁ with
    | .waiting s₂ => .ended s₂
    | .err s₂     => .ended (raiseAccess .mmioWrHi s₂)
    | .ok _ s₂    => .goesOn (setMmioReport .writtenLocked s₂)

/-- The MMIO part (44_mmio_reconcile.md R162). -/
def mmioPart (p : Policy) (s : State) : PartResult :=
  match memRead .mmioRdLo s.addr s with
  | .waiting s₁ => .ended s₁
  | .err s₁     => .ended (raiseAccess .mmioRdLo s₁)
  | .ok lo s₁   =>
    match memRead .mmioRdHi s.highAddr { s₁ with tlo := lo } with
    | .waiting s₂ => .ended s₂
    | .err s₂     => .ended (raiseAccess .mmioRdHi s₂)
    | .ok hi s₂   =>
      if lockBit hi then
        if anyEnabled lo hi then .goesOn (warn .lockedWithLimitsActive { s₂ with mmioimg := joinWords hi lo })
        else if p = .disable then .goesOn (setMmioReport .alreadyReconciled { s₂ with mmioimg := joinWords hi lo })
        else .goesOn (warn .lockedCannotMirror { s₂ with mmioimg := joinWords hi lo })
      else mmioWrites { s₂ with mmioimg := joinWords hi lo, newimg := writeImage p s.msrimg }

/-- A command from acceptance to its end, every transaction answered. -/
def wholeEffect (i : Instr) (s : State) : State :=
  match i with
  | .testf b   => complete { accept (encode (.testf b)) s with r := boolWord (isFieldEnabled s.a b) }
  | .withf b x => complete { accept (encode (.withf b x)) s with r := withField s.a b x }
  | .msrrc     => (msrPart (accept (encode .msrrc) s)).finish
  | .mchrs     => (pciPart (accept (encode .mchrs) s)).finish
  | .mmiorc p  => (mmioPart p (accept (encode (.mmiorc p)) s)).finish
  | .run p     => (((msrPart (accept (encode (.run p)) s)).andThen pciPart).andThen (mmioPart p)).finish

end Sys2Proof.Machine
end

