-- ==== Sys2Proof/Safety.lean ====
section
/-! DEFINITION. What claims say of a machine's states: the invariants that every step keeps, in the terms of the rules
they come from, and what a run without a hang is. -/

namespace Sys2Proof

/-! ### The parts of a command -/

/-- Whether a command has the MSR part (10_state.md R36). -/
def Instr.hasMsrPart (i : Instr) : Prop := i = .msrrc ∨ ∃ p, i = .run p

/-- Whether a command has the PCI part (10_state.md R36). -/
def Instr.hasPciPart (i : Instr) : Prop := i = .mchrs ∨ ∃ p, i = .run p

/-- Whether a command has the MMIO part, with policy `p` (10_state.md R36). -/
def Instr.hasMmioPart (i : Instr) (p : Policy) : Prop := i = .mmiorc p ∨ i = .run p

end Sys2Proof

namespace Sys2Proof.Machine

/-! ### Tables of the rules -/

/-- The stages of a command: its column of the table of 10_state.md R36. -/
def stagesOf : Instr → List Seq
  | .testf _   => []
  | .withf _ _ => []
  | .msrrc     => [.msrRd, .msrWr]
  | .mchrs     => [.pciRd]
  | .mmiorc _  => [.mmioRdLo, .mmioRdHi, .mmioWrLo, .mmioWrHi]
  | .run _     => [.msrRd, .msrWr, .pciRd, .mmioRdLo, .mmioRdHi, .mmioWrLo, .mmioWrHi]

/-- The transactions of a command that meets no error, in order (42_msr_reconcile.md R121, 43_mchbar_resolve.md R141,
44_mmio_reconcile.md R161, 45_sequence.md R195). -/
def fullPaths : Instr → List (List Seq)
  | .testf _   => [[]]
  | .withf _ _ => [[]]
  | .msrrc     => [[.msrRd], [.msrRd, .msrWr]]
  | .mchrs     => [[.pciRd]]
  | .mmiorc _  => [[.mmioRdLo, .mmioRdHi], [.mmioRdLo, .mmioRdHi, .mmioWrLo, .mmioWrHi]]
  | .run _     => [
      [.msrRd, .pciRd, .mmioRdLo, .mmioRdHi],
      [.msrRd, .pciRd, .mmioRdLo, .mmioRdHi, .mmioWrLo, .mmioWrHi],
      [.msrRd, .msrWr, .pciRd, .mmioRdLo, .mmioRdHi],
      [.msrRd, .msrWr, .pciRd, .mmioRdLo, .mmioRdHi, .mmioWrLo, .mmioWrHi]]

/-- The transactions of a command that finds the base register disabled (43_mchbar_resolve.md R142, 45_sequence.md
R195). -/
def disabledPaths : Instr → List (List Seq)
  | .testf _   => []
  | .withf _ _ => []
  | .msrrc     => []
  | .mchrs     => [[.pciRd]]
  | .mmiorc _  => []
  | .run _     => [[.msrRd, .pciRd], [.msrRd, .msrWr, .pciRd]]

/-- The STATUS words at completion: 41_codec.md R103 and R104, 42_msr_reconcile.md R121, 43_mchbar_resolve.md R141,
44_mmio_reconcile.md R162, 45_sequence.md R197, and 30_encoding.md R85 for a word that is no command. -/
def completionStatus : Option Instr → List Word32
  | none              => [0x00000306]
  | some (.testf _)   => [0x00000002]
  | some (.withf _ _) => [0x00000002]
  | some .msrrc       => [0x00010002, 0x00020002, 0x00001106, 0x00002106]
  | some .mchrs       => [0x00200002, 0x00003206, 0x00003106]
  | some (.mmiorc p)  =>
    [0x00040002, if p = .disable then 0x00080002 else 0x0010000A, 0x000C000A,
      0x00004106, 0x00005106, 0x00006106, 0x00007106]
  | some (.run p)     =>
    [0x00001106, 0x00002106,
      0x00260002, if p = .disable then 0x002A0002 else 0x0032000A, 0x002E000A,
      0x00023106, 0x00023206, 0x00224106, 0x00225106, 0x00226106, 0x00227106,
      0x00250002, if p = .disable then 0x00290002 else 0x0031000A, 0x002D000A,
      0x00013106, 0x00013206, 0x00214106, 0x00215106, 0x00216106, 0x00217106]

/-- The command in CMD, if CMD holds one. -/
def State.command (s : State) : Option Instr :=
  match decode s.cmd with
  | .ok i    => some i
  | .error _ => none

/-- The stages of the transactions the command has completed, in order. -/
def State.stages (s : State) : List Seq := s.trace.map (·.stage)

/-! ### The invariant of RRC's registers -/

/-- The reports a running command has made when it is about to perform a stage (10_state.md R27, R29; 45_sequence.md
R191, R192). -/
def reportsSoFar (i : Instr) (s : State) : Prop :=
  match i, s.seq with
  | .run _, .pciRd => s.status.msrRpt ≠ .notRun ∧ s.status.mchOk = false
  | .run _, .mmioRdLo | .run _, .mmioRdHi | .run _, .mmioWrLo | .run _, .mmioWrHi =>
    s.status.msrRpt ≠ .notRun ∧ s.status.mchOk = true
  | _, _ => s.status.msrRpt = .notRun ∧ s.status.mchOk = false

/-- What holds of RRC's registers between any two steps. -/
structure RegisterInv (s : State) : Prop where
  /-- A running command is one of the table, at one of its stages (10_state.md R36, R37), with the reports it has made so
  far. -/
  running : s.busy = true → ∃ i, s.command = some i ∧ s.seq ∈ stagesOf i ∧ reportsSoFar i s
  /-- A running command has reported no outcome (10_state.md R23). -/
  inProgress : s.busy = true → s.status.done = false ∧ s.status.fatal = false ∧ s.status.warn = false ∧
    s.status.err = .none ∧ s.status.stage = .idle ∧ s.status.mmioRpt = .notRun
  /-- "DONE = 0 and BUSY = 0 hold only after reset, before the first command" (10_state.md R23): STATUS and CMD are then
  as reset leaves them. -/
  untouched : s.busy = false → s.status.done = false → s.status = Status.clear ∧ s.cmd = 0 ∧ s.trace = []
  /-- A fatal error sets FATAL and a non-zero ERR, and nothing else does (10_state.md R24, R26). -/
  fatalErr : s.status.fatal = true ↔ s.status.err ≠ .none
  /-- STAGE names a failing transaction exactly for AccessError and BaseRegisterDisabled (00_scope.md R12,
  60_exceptions.md R210). -/
  stageErr : match s.status.err with
    | .none | .illegalCmd => s.status.stage = .idle
    | .access             => s.status.stage ≠ .idle
    | .baseDisabled       => s.status.stage = .pciRd
  /-- WARN is set exactly for the two warnings (10_state.md R24, R28). -/
  warnReport : s.status.warn = true ↔
    s.status.mmioRpt = .lockedWithLimitsActive ∨ s.status.mmioRpt = .lockedCannotMirror
  /-- "FATAL = 1 and WARN = 1 never hold together" (10_state.md R24). -/
  oneOutcome : ¬ (s.status.fatal = true ∧ s.status.warn = true)
  /-- BASE is a 32-bit address with bit 0 clear (43_mchbar_resolve.md R142, R145). -/
  baseForm : s.base &&& 0xFFFFFFFF00000001 = 0
  /-- The image about to be written has LOCK set: "NEWIMG[63] = 1 always" (44_mmio_reconcile.md R170). -/
  lockSet : s.seq = .mmioWrLo ∨ s.seq = .mmioWrHi → lockBit (hi32 s.newimg) = true

/-- A completed command's STATUS is one of the words its rule lists, WOVR (bit 4) apart, which tells of the host's
writes and not of the command (10_state.md R30). -/
def CompletionStatusListed (s : State) : Prop :=
  s.busy = false → s.status.done = true →
    s.statusWord &&& ~~~(0x00000010 : Word32) ∈ completionStatus s.command

/-! ### The invariants of the transactions -/

/-- Whether a transaction is the one its stage issues (00_scope.md R11, 10_state.md R25), at the locations RRC reaches
(20_memory.md R50): `MSR_INDEX`, the configured PCI location, or the mirror words at `base` and `base + 4`, where the
words written are the halves of NEWIMG. -/
def requestFits (s : State) (base : Word64) (t : Txn) : Prop :=
  match t.stage, t.req with
  | .msrRd, .msrRead idx => idx = s.cfg.msrIndex
  | .msrWr, .msrWrite idx _ => idx = s.cfg.msrIndex
  | .pciRd, .pciRead bus dev fn off =>
    bus = s.cfg.pciBus ∧ dev = s.cfg.pciDev ∧ fn = s.cfg.pciFn ∧ off = s.cfg.pciOff
  | .mmioRdLo, .memRead a => a = base
  | .mmioRdHi, .memRead a => a = base + 4
  | .mmioWrLo, .memWrite a w => a = base ∧ w = lo32 s.newimg
  | .mmioWrHi, .memWrite a w => a = base + 4 ∧ w = hi32 s.newimg
  | _, _ => False

/-- The transactions of a command follow its rule's order and end at the first error (45_sequence.md R194, R195;
60_exceptions.md R217). -/
structure TraceInv (s : State) : Prop where
  /-- While a command runs, its transactions and the next one begin one of its paths, and none has erred. -/
  running : s.busy = true → ∃ i, s.command = some i ∧
    (∃ p ∈ fullPaths i, s.stages ++ [s.seq] <+: p) ∧ ∀ t ∈ s.trace, t.resp ≠ .err
  /-- A completed command that met no error issued one of its whole paths. -/
  completed : s.busy = false → s.status.done = true → s.status.err = .none →
    ∃ i, s.command = some i ∧ s.stages ∈ fullPaths i ∧ ∀ t ∈ s.trace, t.resp ≠ .err
  /-- An AccessError is the last transaction's, the first to err, in the stage STAGE names. -/
  accessError : s.status.err = .access →
    ∃ i, s.command = some i ∧ (∃ p ∈ fullPaths i, s.stages <+: p) ∧
      s.stages.getLast? = some s.status.stage ∧ (s.trace.getLast?.map (·.resp)) = some .err ∧
      ∀ t ∈ s.trace.dropLast, t.resp ≠ .err
  /-- A disabled base register ends the command after its PCI read. -/
  baseDisabled : s.status.err = .baseDisabled →
    ∃ i, s.command = some i ∧ s.stages ∈ disabledPaths i ∧ ∀ t ∈ s.trace, t.resp ≠ .err
  /-- A word that is no command issues nothing (30_encoding.md R85). -/
  illegal : s.status.err = .illegalCmd → s.command = none ∧ s.trace = []
  /-- Every transaction is at a location RRC reaches (20_memory.md R50): all MMIO transactions of a command have one base,
  which is ADDR while the command runs; afterwards the host may write ADDR. -/
  requests : ∃ base, (s.busy = true → base = s.addr) ∧ ∀ t ∈ s.trace, requestFits s base t

/-- The HIGH word the command has read, when it has read one with LOCK set (44_mmio_reconcile.md R164). -/
def SawLock (s : State) : Prop :=
  ∃ t ∈ s.trace, ∃ w, t.stage = .mmioRdHi ∧ t.resp = .value32 w ∧ lockBit w = true

/-- Whether a request is a write on the MMIO port. -/
def Request.isMemWrite : Request → Bool
  | .memWrite _ _ => true
  | .msrRead _ | .msrWrite _ _ | .memRead _ | .pciRead _ _ _ _ => false

/-- "RRC issues no MMIO write in that command" when the HIGH word it read has bit 31 = 1 (44_mmio_reconcile.md R172):
neither before nor after, for the command is over. -/
def WriteAvoidance (s : State) : Prop :=
  SawLock s → s.busy = false ∧ ∀ t ∈ s.trace, t.req.isMemWrite = false

/-- The command's transactions hold a LOW read that returned `lo` and a HIGH read that returned `hi`. -/
def ReadMirror (s : State) (lo hi : Word32) : Prop :=
  (∃ t ∈ s.trace, t.stage = .mmioRdLo ∧ t.resp = .value32 lo) ∧
  ∃ t ∈ s.trace, t.stage = .mmioRdHi ∧ t.resp = .value32 hi

/-- STATUS reports what the transactions showed (10_state.md R27 to R29). -/
structure ReportsTrue (s : State) : Prop where
  /-- ALREADY_ENABLED: the MSR read returned a value with both enable bits. -/
  alreadyEnabled : s.status.msrRpt = .alreadyEnabled ↔
    ∃ t ∈ s.trace, ∃ v, t.stage = .msrRd ∧ t.resp = .value64 v ∧ allSet v reqMask = true
  /-- WRITTEN: the MSR write returned `ok`. -/
  written : s.status.msrRpt = .written ↔ ∃ t ∈ s.trace, t.stage = .msrWr ∧ t.resp = .ok
  /-- MCH_OK: the PCI read returned a dword with ENABLED set. -/
  resolved : s.status.mchOk = true ↔
    ∃ t ∈ s.trace, ∃ d, t.stage = .pciRd ∧ t.resp = .value32 d ∧ baseEnabled d = true
  /-- WRITTEN_LOCKED: the HIGH write returned `ok`. -/
  writtenLocked : s.status.mmioRpt = .writtenLocked ↔ ∃ t ∈ s.trace, t.stage = .mmioWrHi ∧ t.resp = .ok
  /-- LOCKED_WITH_LIMITS_ACTIVE: both words were read, LOCK and an enable bit set. -/
  limitsActive : s.status.mmioRpt = .lockedWithLimitsActive ↔
    ∃ lo hi, ReadMirror s lo hi ∧ lockBit hi = true ∧ (mirrorPl1Enabled lo = true ∨ mirrorPl2Enabled hi = true)
  /-- ALREADY_RECONCILED: both words were read, LOCK set, no enable bit set, the policy DISABLE. -/
  alreadyReconciled : s.status.mmioRpt = .alreadyReconciled ↔
    s.lpol = false ∧ ∃ lo hi, ReadMirror s lo hi ∧ lockBit hi = true ∧
      mirrorPl1Enabled lo = false ∧ mirrorPl2Enabled hi = false
  /-- LOCKED_CANNOT_MIRROR: the same, the policy MIRROR. -/
  cannotMirror : s.status.mmioRpt = .lockedCannotMirror ↔
    s.lpol = true ∧ ∃ lo hi, ReadMirror s lo hi ∧ lockBit hi = true ∧
      mirrorPl1Enabled lo = false ∧ mirrorPl2Enabled hi = false
  /-- Between the two reads TLO holds the LOW word read (10_state.md R37). -/
  lowWord : s.seq = .mmioRdHi → ∃ t ∈ s.trace, t.stage = .mmioRdLo ∧ t.resp = .value32 s.tlo

/-- Without other writers and with ADDR at the mirror, the write path meets an unlocked mirror, and between its two
writes the mirror holds the new LOW word (20_memory.md R66, R68, R70; 70_reset_and_hazards.md R249). -/
def WriteWindow (s : State) : Prop :=
  s.cfg.extWriters = false → s.addr = s.cfg.mirrorPa →
    (s.seq = .mmioWrLo → s.locked = false) ∧
    (s.seq = .mmioWrHi → s.locked = false ∧ s.mlo = lo32 s.newimg)

/-! ### What a frame names -/

/-- RRC's registers are the same in two states: the host registers, STATUS's stored fields, SEQ, TLO. -/
structure SameRegisters (s t : State) : Prop where
  cmd     : t.cmd = s.cmd
  status  : t.status = s.status
  a       : t.a = s.a
  r       : t.r = s.r
  msrin   : t.msrin = s.msrin
  msrimg  : t.msrimg = s.msrimg
  cfgraw  : t.cfgraw = s.cfgraw
  base    : t.base = s.base
  addr    : t.addr = s.addr
  mmioimg : t.mmioimg = s.mmioimg
  newimg  : t.newimg = s.newimg
  seq     : t.seq = s.seq
  tlo     : t.tlo = s.tlo

/-- The three target devices, and the record of stray writes, are the same in two states. -/
structure SameDevices (s t : State) : Prop where
  msr   : t.msr = s.msr
  mlo   : t.mlo = s.mlo
  mhi   : t.mhi = s.mhi
  pci   : t.pci = s.pci
  stray : t.stray = s.stray

/-- The host's side, the schedule, the configuration, and whether a command has been accepted since power-on, are the same
in two states. -/
structure SameSurroundings (s t : State) : Prop where
  program   : t.program = s.program
  rdData    : t.rdData = s.rdData
  turns     : t.turns = s.turns
  cfg       : t.cfg = s.cfg
  commanded : t.commanded = s.commanded

/-- What follows when a part of a command succeeds: RUN goes on to `nextStage`, every other command completes
(42_msr_reconcile.md R124, 43_mchbar_resolve.md R143). -/
def afterPart (i : Instr) (nextStage : Seq) (s : State) : State :=
  match i with
  | .run _ => { s with seq := nextStage }
  | .testf _ | .withf _ _ | .msrrc | .mchrs | .mmiorc _ =>
    { s with seq := .idle, status := { s.status with done := true } }

/-- A state after AccessError at `stage` (00_scope.md R12, 60_exceptions.md R210, R218). -/
def afterAccessError (stage : Seq) (s : State) : State :=
  { s with seq := .idle,
           status := { s.status with done := true, fatal := true, err := .access, stage := stage } }

/-- The next `n` answers are in the state's list and none of them is a hang (70_reset_and_hazards.md R254). -/
def Answered (n : Nat) (s : State) : Prop :=
  n ≤ s.draws.length ∧ ∀ d ∈ s.draws.take n, d ≠ .noAnswer

end Sys2Proof.Machine
end

