-- ==== Sys2Proof/Certificates/Slice0/Obligations.lean ====
section
/-! DEFINITION. The statements for the provers. -/

open Sys2Proof Sys2Proof.Machine

/-! ### Command words -/

/-- Decode and encode agree: every well-formed command is read back from its word (30_encoding.md R84, R88). -/
def Obligations.DecodeOfEncodeIsTheCommand : Prop :=
  ∀ i : Instr, i.wellFormed = true → decode (encode i) = .ok i

/-- Every word that decodes is the word of what it decodes to, which is well formed: no word has two meanings and no bit
is dropped (30_encoding.md R84, R88). -/
def Obligations.EncodeOfDecodeIsTheWord : Prop :=
  ∀ (w : Word32) (i : Instr), decode w = .ok i → i.wellFormed = true ∧ encode i = w

/-- 30_encoding.md R87: decoding is total and unambiguous. -/
def Obligations.EveryWordMatchesAtMostOneRow : Prop :=
  ∀ w : Word32,
    (∀ r ∈ opcodeRows, ∀ r' ∈ opcodeRows, rowMatches r w = true → rowMatches r' w = true → r = r') ∧
    ((∃ r ∈ opcodeRows, rowMatches r w = true) ↔ ∃ i, decode w = .ok i) ∧
    ((∀ r ∈ opcodeRows, rowMatches r w = false) ↔ ∃ e, decode w = .error e)

/-- 30_encoding.md R85: which words are illegal, and what an illegal word does: it is accepted and completes at once
with IllegalCommand, STATUS = 0x306; no transaction is issued and nothing but CMD and STATUS changes (the list of the
command's transactions is empty).
That `trace` is emptied and `commanded` set is the model's record (log entries 7, 21). -/
def Obligations.IllegalWordsCompleteWithIllegalCommand : Prop :=
  ∀ (v : Word64) (s : State), s.busy = false →
    (((opField (lo32 v) = 0 ∨ 7 ≤ (opField (lo32 v)).toNat) ∨
      rsvField (lo32 v) ≠ 0 ∨
      (opField (lo32 v) = 1 ∧ (polField (lo32 v) = true ∨ xField (lo32 v) = true)) ∨
      (opField (lo32 v) = 2 ∧ polField (lo32 v) = true) ∨
      ((opField (lo32 v) = 3 ∨ opField (lo32 v) = 4) ∧
        (polField (lo32 v) = true ∨ xField (lo32 v) = true ∨ bitField (lo32 v) ≠ 0)) ∨
      ((opField (lo32 v) = 5 ∨ opField (lo32 v) = 6) ∧ (xField (lo32 v) = true ∨ bitField (lo32 v) ≠ 0))) ↔
      ∃ e, decode (lo32 v) = .error e) ∧
    ((∃ e, decode (lo32 v) = .error e) →
      ∃ t, hostWrite HostReg.cmd.index v s = .next t ∧ t.statusWord = 0x00000306 ∧
        t = { s with
              cmd := lo32 v, trace := [], commanded := true,
              status := { Status.clear with done := true, fatal := true, err := .illegalCmd } })

/-- Words written out from the patterns of 30_encoding.md R84 decode to their commands, and words of
95_test_vectors.md V1 are rejected.
The names of the rejections are the model's (log entry 13). -/
def Obligations.SampleWordsDecode : Prop :=
  decode 0x00000FC1 = .ok (.testf 63) ∧ decode 0x00000BE2 = .ok (.withf 47 true) ∧
  decode 0x00000003 = .ok .msrrc ∧ decode 0x00000004 = .ok .mchrs ∧
  decode 0x00000015 = .ok (.mmiorc .mirror) ∧ decode 0x00000006 = .ok (.run .disable) ∧
  decode 0x00000000 = .error .unassignedOpcode ∧ decode 0x01000006 = .error .reservedBitsSet ∧
  decode 0x00000026 = .error .unusedFieldSet

/-- 30_encoding.md R88: the assembler admits only well-formed commands (a bit index of 0 to 63), and a command it admits
decodes from its word to itself.
White space is read as log entry 14 says. -/
def Obligations.AssembledCommandsAreWellFormed : Prop :=
  ∀ (line : List Char) (i : Instr), parseCommand line = some i → i.wellFormed = true ∧ decode (encode i) = .ok i

/-! ### Acceptance and the codec commands -/

/-- 30_encoding.md R86: a host write to CMD while SEQ = IDLE, every command; while SEQ ≠ IDLE it is no acceptance, so
commands never overlap.
That `trace` is emptied and `commanded` set is the model's record (log entries 7, 21). -/
def Obligations.CommandAcceptance : Prop :=
  (∀ (v : Word64) (s : State), s.seq ≠ .idle →
    hostWrite HostReg.cmd.index v s = .next { s with status := { s.status with wovr := true } }) ∧
  ∀ (v : Word64) (s : State), s.seq = .idle →
    (∀ e, decode (lo32 v) = .error e → hostWrite HostReg.cmd.index v s = .next
      { s with
        cmd := lo32 v, trace := [], commanded := true,
        status := { Status.clear with done := true, fatal := true, err := .illegalCmd } }) ∧
    (∀ b, decode (lo32 v) = .ok (.testf b) → hostWrite HostReg.cmd.index v s = .next
      { s with
        cmd := lo32 v, trace := [], commanded := true, status := { Status.clear with done := true }
        r := if s.a.getLsbD b then 1 else 0 }) ∧
    (∀ b x, decode (lo32 v) = .ok (.withf b x) → hostWrite HostReg.cmd.index v s = .next
      { s with
        cmd := lo32 v, trace := [], commanded := true, status := { Status.clear with done := true }
        r := if x then s.a ||| ((1 : Word64) <<< b) else s.a &&& ~~~((1 : Word64) <<< b) }) ∧
    (decode (lo32 v) = .ok .msrrc → hostWrite HostReg.cmd.index v s = .next
      { s with cmd := lo32 v, trace := [], commanded := true, status := Status.clear, seq := .msrRd }) ∧
    (decode (lo32 v) = .ok .mchrs → hostWrite HostReg.cmd.index v s = .next
      { s with cmd := lo32 v, trace := [], commanded := true, status := Status.clear, seq := .pciRd }) ∧
    (∀ p, decode (lo32 v) = .ok (.mmiorc p) → hostWrite HostReg.cmd.index v s = .next
      { s with cmd := lo32 v, trace := [], commanded := true, status := Status.clear, seq := .mmioRdLo }) ∧
    (∀ p, decode (lo32 v) = .ok (.run p) → hostWrite HostReg.cmd.index v s = .next
      { s with cmd := lo32 v, trace := [], commanded := true, status := Status.clear, seq := .msrRd })

/-- Issuing a reconcile command completes its acceptance step: CMD takes its word, STATUS's stored fields are cleared and
SEQ names its first stage (30_encoding.md R84, R86).
That `trace` is emptied and `commanded` set is the model's record (log entries 7, 21). -/
def Obligations.ReconcileCommandsStart : Prop :=
  ∀ s : State, s.seq = .idle →
    exec .msrrc s = .next
      { s with cmd := 0x00000003, trace := [], commanded := true, status := Status.clear, seq := .msrRd } ∧
    exec .mchrs s = .next
      { s with cmd := 0x00000004, trace := [], commanded := true, status := Status.clear, seq := .pciRd } ∧
    exec (.mmiorc .disable) s =
      .next { s with cmd := 0x00000005, trace := [], commanded := true, status := Status.clear, seq := .mmioRdLo } ∧
    exec (.mmiorc .mirror) s =
      .next { s with cmd := 0x00000015, trace := [], commanded := true, status := Status.clear, seq := .mmioRdLo } ∧
    exec (.run .disable) s = .next
      { s with cmd := 0x00000006, trace := [], commanded := true, status := Status.clear, seq := .msrRd } ∧
    exec (.run .mirror) s = .next
      { s with cmd := 0x00000016, trace := [], commanded := true, status := Status.clear, seq := .msrRd }

/-- 41_codec.md R103: TESTF completes at acceptance with bit b of A in R; STATUS reads 0x2.
That `trace` is emptied and `commanded` set is the model's record (log entries 7, 21). -/
def Obligations.TestfExtractsTheBit : Prop :=
  ∀ (b : Nat) (s : State), b ≤ 63 → s.seq = .idle →
    ∃ t, exec (.testf b) s = .next t ∧ t.statusWord = 0x00000002 ∧
      t = { s with
            cmd := (0x00000001 : Word32) ||| (BitVec.ofNat 32 b <<< 6), trace := [], commanded := true
            status := { Status.clear with done := true }
            r := if s.a.getLsbD b then 0x0000000000000001 else 0x0000000000000000 }

/-- 41_codec.md R104: WITHF completes at acceptance with A, bit b set to x, in R; STATUS reads 0x2.
That `trace` is emptied and `commanded` set is the model's record (log entries 7, 21). -/
def Obligations.WithfInsertsTheBit : Prop :=
  ∀ (b : Nat) (x : Bool) (s : State), b ≤ 63 → s.seq = .idle →
    ∃ t, exec (.withf b x) s = .next t ∧ t.statusWord = 0x00000002 ∧
      t = { s with
            cmd := (0x00000002 : Word32) ||| (BitVec.ofNat 32 b <<< 6) ||| (if x then (0x00000020 : Word32) else 0x00000000)
            trace := [], commanded := true, status := { Status.clear with done := true }, r := t.r } ∧
      ∀ j, j < 64 → t.r.getLsbD j = if j = b then x else s.a.getLsbD j

/-- 41_codec.md R102: the laws the source states of the codec, and the derived one. -/
def Obligations.CodecLaws : Prop :=
  ∀ (v : Word64) (b : Nat) (x : Bool), b ≤ 63 →
    isFieldEnabled (withField v b true) b = true ∧
    isFieldEnabled (withField v b false) b = false ∧
    withField (withField v b x) b x = withField v b x ∧
    withField v b x &&& ~~~((1 : Word64) <<< b) = v &&& ~~~((1 : Word64) <<< b)

/-- What TESTF and WITHF leave unchanged: every register but CMD, STATUS and R; SEQ; every device word at every address;
the host's side; the draws (41_codec.md R101, R103, R104).
That `trace` is emptied and `commanded` set is the model's record (log entries 7, 21). -/
def Obligations.CodecCommandsFrame : Prop :=
  ∀ (i : Instr) (s t : State), ((∃ b, i = .testf b) ∨ ∃ b x, i = .withf b x) → exec i s = .next t →
    SameRegisters { s with cmd := t.cmd, status := t.status, r := t.r } t ∧
    SameDevices s t ∧ SameSurroundings { s with commanded := true } t ∧ t.draws = s.draws ∧ t.drawCtr = s.drawCtr ∧
    t.trace = [] ∧
    ∀ addr, t.mirrorWord addr = s.mirrorWord addr

/-! ### The MSR part -/

/-- 42_msr_reconcile.md R122: the MSR_RD stage of MSRRC and of RUN. -/
def Obligations.MsrReadStage : Prop :=
  ∀ (i : Instr) (s : State), i.hasMsrPart → s.seq = .msrRd →
    (∀ landed, nextDraw s = .err landed → exec i s = .next (afterAccessError .msrRd
      { dropDraw s with trace := s.trace ++ [⟨.msrRd, .msrRead s.cfg.msrIndex, .err⟩] })) ∧
    (∀ any, nextDraw s = .ok any → s.msr &&& 0x0000800000008000 = 0x0000800000008000 →
      exec i s = .next (afterPart i .pciRd
        { dropDraw s with
          msrin := s.msr, msrimg := s.msr, status := { s.status with msrRpt := .alreadyEnabled }
          trace := s.trace ++ [⟨.msrRd, .msrRead s.cfg.msrIndex, .value64 s.msr⟩] })) ∧
    (∀ any, nextDraw s = .ok any → s.msr &&& 0x0000800000008000 ≠ 0x0000800000008000 →
      exec i s = .next
        { dropDraw s with
          msrin := s.msr, seq := .msrWr
          trace := s.trace ++ [⟨.msrRd, .msrRead s.cfg.msrIndex, .value64 s.msr⟩] })

/-- 42_msr_reconcile.md R123: the MSR_WR stage of MSRRC and of RUN, with the device's rule for `err` (20_memory.md R64:
M is unchanged or equal to the written value). -/
def Obligations.MsrWriteStage : Prop :=
  ∀ (i : Instr) (s : State), i.hasMsrPart → s.seq = .msrWr →
    (∀ any, nextDraw s = .ok any → exec i s = .next (afterPart i .pciRd
      { dropDraw s with
        msr := s.msrin ||| 0x0000800000008000, msrimg := s.msrin ||| 0x0000800000008000
        status := { s.status with msrRpt := .written }
        trace := s.trace ++ [⟨.msrWr, .msrWrite s.cfg.msrIndex (s.msrin ||| 0x0000800000008000), .ok⟩] })) ∧
    (∀ landed, nextDraw s = .err landed → exec i s = .next (afterAccessError .msrWr
      { dropDraw s with
        msr := if landed then s.msrin ||| 0x0000800000008000 else s.msr
        trace := s.trace ++ [⟨.msrWr, .msrWrite s.cfg.msrIndex (s.msrin ||| 0x0000800000008000), .err⟩] }))

/-- 42_msr_reconcile.md R127: MSRRC issues no write when both enable bits are 1; otherwise exactly one, that ORs in the
mask and changes no other bit. The host issues MSRRC and waits; both transactions, if made, answer `ok`.
The host that waits is the model's schedule (log entries 5, 6). -/
def Obligations.MsrReconcileWritesOnceOrNever : Prop :=
  ∀ (s : State) (w₁ w₂ : Word32) (ds : List Config.Draw), s.seq = .idle → s.turns = [] →
    s.program = [.issue .msrrc] → s.draws = .ok w₁ :: .ok w₂ :: ds →
    ∃ t, Host.Core.run core 3 s = .next t ∧
      t.seq = .idle ∧ t.status.done = true ∧ t.status.fatal = false ∧ t.msrimg = t.msr ∧
      (s.msr.getLsbD 15 = true ∧ s.msr.getLsbD 47 = true →
        t.msr = s.msr ∧ t.status.msrRpt = .alreadyEnabled ∧
        t.trace = [⟨.msrRd, .msrRead s.cfg.msrIndex, .value64 s.msr⟩]) ∧
      (¬ (s.msr.getLsbD 15 = true ∧ s.msr.getLsbD 47 = true) →
        t.status.msrRpt = .written ∧
        t.trace = [⟨.msrRd, .msrRead s.cfg.msrIndex, .value64 s.msr⟩,
          ⟨.msrWr, .msrWrite s.cfg.msrIndex t.msr, .ok⟩] ∧
        ∀ j, j < 64 → t.msr.getLsbD j = if j = 15 ∨ j = 47 then true else s.msr.getLsbD j)

/-- What the MSR stages leave unchanged: of the registers only SEQ, STATUS, MSRIN and MSRIMG may change; of the devices
only the MSR, and only at MSR_WR; the mirror answers as before at every address (10_state.md R20, R36; 20_memory.md
R67). -/
def Obligations.MsrStagesFrame : Prop :=
  ∀ (i : Instr) (s t : State), s.seq = .msrRd ∨ s.seq = .msrWr → exec i s = .next t →
    SameRegisters { s with seq := t.seq, status := t.status, msrin := t.msrin, msrimg := t.msrimg } t ∧
    (s.status.wovr = t.status.wovr ∧ s.status.warn = t.status.warn ∧ s.status.mmioRpt = t.status.mmioRpt ∧
      s.status.mchOk = t.status.mchOk) ∧
    SameDevices { s with msr := t.msr } t ∧ (s.seq = .msrRd → t.msr = s.msr) ∧
    (s.seq = .msrWr → t.msr = s.msr ∨ t.msr = s.msrin ||| 0x0000800000008000) ∧
    SameSurroundings s t ∧ ∀ addr, t.mirrorWord addr = s.mirrorWord addr

/-! ### The PCI part -/

/-- 43_mchbar_resolve.md R142: the PCI_RD stage of MCHRS and of RUN. -/
def Obligations.PciReadStage : Prop :=
  ∀ (i : Instr) (s : State), i.hasPciPart → s.seq = .pciRd →
    (∀ landed, nextDraw s = .err landed → exec i s = .next (afterAccessError .pciRd
      { dropDraw s with
        trace := s.trace ++ [⟨.pciRd, .pciRead s.cfg.pciBus s.cfg.pciDev s.cfg.pciFn s.cfg.pciOff, .err⟩] })) ∧
    (∀ any, nextDraw s = .ok any → s.pci.getLsbD 0 = false → exec i s = .next
      { dropDraw s with
        cfgraw := s.pci, seq := .idle
        status := { s.status with done := true, fatal := true, err := .baseDisabled, stage := .pciRd }
        trace := s.trace ++
          [⟨.pciRd, .pciRead s.cfg.pciBus s.cfg.pciDev s.cfg.pciFn s.cfg.pciOff, .value32 s.pci⟩] }) ∧
    (∀ any, nextDraw s = .ok any → s.pci.getLsbD 0 = true → exec i s = .next (afterPart i .mmioRdLo
      { dropDraw s with
        cfgraw := s.pci, base := (s.pci &&& 0xFFFFFFFE).setWidth 64
        addr := (s.pci &&& 0xFFFFFFFE).setWidth 64 + s.cfg.mmioOffset
        status := { s.status with mchOk := true }
        trace := s.trace ++
          [⟨.pciRd, .pciRead s.cfg.pciBus s.cfg.pciDev s.cfg.pciFn s.cfg.pciOff, .value32 s.pci⟩] }))

/-- With the default MMIO_OFFSET a resolved address is exact: it is the base's number plus 0x59A0, at most 0x1_0000_599E,
ADDR + 4 does not wrap, ADDR[0] = 0 and ADDR[1] = CFGRAW[1] (43_mchbar_resolve.md R142, R145; 20_memory.md R77,
R78). -/
def Obligations.ResolvedAddressIsExact : Prop :=
  ∀ (i : Instr) (s : State) (any : Word32), i.hasPciPart → s.seq = .pciRd → s.cfg.mmioOffset = 0x59A0 →
    nextDraw s = .ok any → s.pci.getLsbD 0 = true →
    ∃ t, exec i s = .next t ∧ t.base.toNat = s.pci.toNat - 1 ∧ t.addr.toNat = s.pci.toNat - 1 + 0x59A0 ∧
      t.addr.toNat ≤ 0x10000599E ∧ t.highAddr.toNat = t.addr.toNat + 4 ∧
      t.addr.getLsbD 0 = false ∧ t.addr.getLsbD 1 = t.cfgraw.getLsbD 1

/-- 43_mchbar_resolve.md R146: MCHRS fails with BaseRegisterDisabled when bit 0 = 0, and otherwise leaves
`configValue & ~1` in BASE. The host issues MCHRS and waits; the read answers `ok`.
The host that waits is the model's schedule (log entries 5, 6). -/
def Obligations.BaseResolveChecksTheEnableBit : Prop :=
  ∀ (s : State) (w : Word32) (ds : List Config.Draw), s.seq = .idle → s.turns = [] →
    s.program = [.issue .mchrs] → s.draws = .ok w :: ds →
    ∃ t, Host.Core.run core 2 s = .next t ∧ t.cfgraw = s.pci ∧
      (s.pci.getLsbD 0 = false → t.statusWord = 0x00003206 ∧ t.base = s.base ∧ t.addr = s.addr) ∧
      (s.pci.getLsbD 0 = true → t.statusWord = 0x00200002 ∧
        t.base = (s.pci &&& ~~~1).setWidth 64 ∧ t.addr = t.base + s.cfg.mmioOffset)

/-- What the PCI stage leaves unchanged: of the registers only SEQ, STATUS, CFGRAW, BASE and ADDR may change; no device
changes (10_state.md R20, R36; 20_memory.md R50, R67). -/
def Obligations.PciStageFrame : Prop :=
  ∀ (i : Instr) (s t : State), s.seq = .pciRd → exec i s = .next t →
    SameRegisters { s with seq := t.seq, status := t.status, cfgraw := t.cfgraw, base := t.base, addr := t.addr } t ∧
    (s.status.wovr = t.status.wovr ∧ s.status.warn = t.status.warn ∧ s.status.msrRpt = t.status.msrRpt ∧
      s.status.mmioRpt = t.status.mmioRpt) ∧
    SameDevices s t ∧ SameSurroundings s t ∧ ∀ addr, t.mirrorWord addr = s.mirrorWord addr

/-! ### The MMIO part -/

/-- 44_mmio_reconcile.md R163: the MMIO_RD_LO stage of MMIORC and of RUN. The word read is the mirror's where ADDR hits
it, any word elsewhere (20_memory.md R58, R59). -/
def Obligations.MmioReadLowStage : Prop :=
  ∀ (i : Instr) (p : Policy) (s : State), i.hasMmioPart p → s.seq = .mmioRdLo →
    (∀ landed, nextDraw s = .err landed → exec i s = .next (afterAccessError .mmioRdLo
      { dropDraw s with trace := s.trace ++ [⟨.mmioRdLo, .memRead s.addr, .err⟩] })) ∧
    (∀ any, nextDraw s = .ok any → exec i s = .next
      { dropDraw s with
        tlo := (s.mirrorWord s.addr).getD any, seq := .mmioRdHi
        trace := s.trace ++ [⟨.mmioRdLo, .memRead s.addr, .value32 ((s.mirrorWord s.addr).getD any)⟩] })

/-- 44_mmio_reconcile.md R164, with R165 to R168: the MMIO_RD_HI stage of MMIORC and of RUN, error, the three locked
outcomes and the unlocked one. -/
def Obligations.MmioReadHighStage : Prop :=
  ∀ (i : Instr) (p : Policy) (s : State), i.hasMmioPart p → s.seq = .mmioRdHi →
    (∀ landed, nextDraw s = .err landed → exec i s = .next (afterAccessError .mmioRdHi
      { dropDraw s with trace := s.trace ++ [⟨.mmioRdHi, .memRead (s.addr + 4), .err⟩] })) ∧
    (∀ any hi, nextDraw s = .ok any → hi = (s.mirrorWord (s.addr + 4)).getD any → hi.getLsbD 31 = true →
      exec i s = .next
        { dropDraw s with
          mmioimg := hi ++ s.tlo, seq := .idle
          status := { s.status with
            done := true
            warn := s.status.warn || s.tlo.getLsbD 15 || hi.getLsbD 15 || decide (p = .mirror)
            mmioRpt :=
              if s.tlo.getLsbD 15 = true ∨ hi.getLsbD 15 = true then .lockedWithLimitsActive
              else if p = .disable then .alreadyReconciled else .lockedCannotMirror }
          trace := s.trace ++ [⟨.mmioRdHi, .memRead (s.addr + 4), .value32 hi⟩] }) ∧
    (∀ any hi, nextDraw s = .ok any → hi = (s.mirrorWord (s.addr + 4)).getD any → hi.getLsbD 31 = false →
      exec i s = .next
        { dropDraw s with
          mmioimg := hi ++ s.tlo, seq := .mmioWrLo
          newimg :=
            if p = .disable then (0x80000000 : Word32) ++ (0x00000000 : Word32)
            else (hi32 s.msrimg ||| 0x80000000) ++ lo32 s.msrimg
          trace := s.trace ++ [⟨.mmioRdHi, .memRead (s.addr + 4), .value32 hi⟩] })

/-- 44_mmio_reconcile.md R169: the MMIO_WR_LO stage of MMIORC and of RUN writes NEWIMG[31:0] at ADDR; after `err` no HIGH
write follows. The devices' side is their own statement. -/
def Obligations.MmioWriteLowStage : Prop :=
  ∀ (i : Instr) (p : Policy) (s : State), i.hasMmioPart p → s.seq = .mmioWrLo →
    (∀ landed, nextDraw s = .err landed → ∃ t, exec i s = .next t ∧
      SameRegisters (afterAccessError .mmioWrLo s) t ∧
      t.trace = s.trace ++ [⟨.mmioWrLo, .memWrite s.addr (lo32 s.newimg), .err⟩]) ∧
    (∀ any, nextDraw s = .ok any → ∃ t, exec i s = .next t ∧
      SameRegisters { s with seq := .mmioWrHi } t ∧
      t.trace = s.trace ++ [⟨.mmioWrLo, .memWrite s.addr (lo32 s.newimg), .ok⟩])

/-- 44_mmio_reconcile.md R170, with R171: the MMIO_WR_HI stage of MMIORC and of RUN writes NEWIMG[63:32] at ADDR + 4,
reports WRITTEN_LOCKED and completes. The devices' side is their own statement. -/
def Obligations.MmioWriteHighStage : Prop :=
  ∀ (i : Instr) (p : Policy) (s : State), i.hasMmioPart p → s.seq = .mmioWrHi →
    (∀ landed, nextDraw s = .err landed → ∃ t, exec i s = .next t ∧
      SameRegisters (afterAccessError .mmioWrHi s) t ∧
      t.trace = s.trace ++ [⟨.mmioWrHi, .memWrite (s.addr + 4) (hi32 s.newimg), .err⟩]) ∧
    (∀ any, nextDraw s = .ok any → ∃ t, exec i s = .next t ∧
      SameRegisters { s with seq := .idle, status := { s.status with done := true, mmioRpt := .writtenLocked } } t ∧
      t.trace = s.trace ++ [⟨.mmioWrHi, .memWrite (s.addr + 4) (hi32 s.newimg), .ok⟩])

/-- What the two MMIO write stages do to the devices, with the address each stores to: at the mirror while UNLOCKED the
word takes the written value after `ok`, and is old or new after `err`; while LOCKED nothing changes; a write that misses
the mirror is recorded as a stray write (20_memory.md R57, R58, R60, R61). Every other address answers as before; the MSR
and the PCI dword are unchanged.
A stray write is recorded whatever its answer (log entry 12). -/
def Obligations.MmioWriteStagesOnTheDevices : Prop :=
  ∀ (i : Instr) (s t : State) (addr : Word64) (w : Word32),
    (s.seq = .mmioWrLo ∧ addr = s.addr ∧ w = lo32 s.newimg ∨
      s.seq = .mmioWrHi ∧ addr = s.addr + 4 ∧ w = hi32 s.newimg) →
    exec i s = .next t →
    (∀ other, other ≠ addr → t.mirrorWord other = s.mirrorWord other) ∧
    (s.mirrorWord addr = none → t.mlo = s.mlo ∧ t.mhi = s.mhi ∧
      t.stray = if nextDraw s = .noAnswer then s.stray else s.stray ++ [(addr, w)]) ∧
    (∀ old, s.mirrorWord addr = some old → t.stray = s.stray ∧
      t.mirrorWord addr = some
        (if s.locked = false ∧ ((∃ any, nextDraw s = .ok any) ∨ nextDraw s = .err true) then w else old)) ∧
    t.msr = s.msr ∧ t.pci = s.pci ∧ SameSurroundings s t

/-- What the two MMIO read stages leave unchanged: of the registers only SEQ, STATUS, TLO, MMIOIMG and NEWIMG may change,
and no device changes: every address answers as before (20_memory.md R59, R67; 10_state.md R34, R37). -/
def Obligations.MmioReadStagesFrame : Prop :=
  ∀ (i : Instr) (s t : State), s.seq = .mmioRdLo ∨ s.seq = .mmioRdHi → exec i s = .next t →
    SameRegisters
      { s with seq := t.seq, status := t.status, tlo := t.tlo, mmioimg := t.mmioimg, newimg := t.newimg } t ∧
    (s.status.wovr = t.status.wovr ∧ s.status.msrRpt = t.status.msrRpt ∧ s.status.mchOk = t.status.mchOk) ∧
    SameDevices s t ∧ SameSurroundings s t ∧ ∀ addr, t.mirrorWord addr = s.mirrorWord addr

/-- 44_mmio_reconcile.md R177: with LOCK = 1 on entry MMIORC never writes, for any enable-bit combination; on unlocked
input DISABLE yields LOW = 0, HIGH = 0x80000000, and MIRROR the MSR image with bit 31 of HIGH forced to 1. The host issues
MMIORC with ADDR at the mirror and waits; every transaction answers `ok`.
The host that waits is the model's schedule (log entries 5, 6). -/
def Obligations.MmioReconcileOutcomes : Prop :=
  ∀ (p : Policy) (s : State) (w₁ w₂ w₃ w₄ : Word32) (ds : List Config.Draw), s.seq = .idle → s.turns = [] →
    s.program = [.issue (.mmiorc p)] → s.draws = .ok w₁ :: .ok w₂ :: .ok w₃ :: .ok w₄ :: ds →
    s.addr = s.cfg.mirrorPa →
    ∃ t, Host.Core.run core 5 s = .next t ∧ t.seq = .idle ∧ t.status.done = true ∧ t.status.fatal = false ∧
      (s.locked = true → t.mlo = s.mlo ∧ t.mhi = s.mhi ∧ ∀ x ∈ t.trace, x.req.isMemWrite = false) ∧
      (s.locked = false → t.locked = true ∧ t.status.mmioRpt = .writtenLocked ∧
        t.mlo = (if p = .disable then 0x00000000 else lo32 s.msrimg) ∧
        t.mhi = (if p = .disable then 0x80000000 else hi32 s.msrimg ||| 0x80000000))

/-- 44_mmio_reconcile.md R173: after WRITTEN_LOCKED, without other writers and with ADDR at the mirror, the mirror holds
NEWIMG and is LOCKED, in every state that meets the invariants.
Who else may write is log entry 8. -/
def Obligations.WrittenLockedMeansTheMirrorHoldsTheImage : Prop :=
  ∀ (i : Instr) (p : Policy) (s : State) (any : Word32), RegisterInv s → WriteWindow s → i.hasMmioPart p →
    s.seq = .mmioWrHi → s.cfg.extWriters = false → s.addr = s.cfg.mirrorPa → nextDraw s = .ok any →
    ∃ t, exec i s = .next t ∧ t.status.mmioRpt = .writtenLocked ∧ t.status.done = true ∧
      t.mlo = lo32 t.newimg ∧ t.mhi = hi32 t.newimg ∧ t.locked = true

/-- Under EXT_WRITERS an external lock makes both RRC writes rejected while RRC still reports WRITTEN_LOCKED when both
responses are `ok` (20_memory.md R71): from MMIO_WR_LO with the mirror LOCKED, the controller's two steps.
That the controller moves is the model's schedule (log entry 6). -/
def Obligations.ExternalLockGoesUnnoticed : Prop :=
  ∀ (i : Instr) (p : Policy) (s : State) (w₁ w₂ : Word32) (ds : List Config.Draw), i.hasMmioPart p →
    s.command = some i → s.seq = .mmioWrLo → s.turns = [] → s.program = [] → s.draws = .ok w₁ :: .ok w₂ :: ds →
    s.addr = s.cfg.mirrorPa → s.locked = true →
    ∃ t, Host.Core.run core 2 s = .next t ∧ t.seq = .idle ∧ t.status.mmioRpt = .writtenLocked ∧
      t.mlo = s.mlo ∧ t.mhi = s.mhi

/-! ### Where a command's meaning stops, and the hang -/

/-- A command's meaning answers a next state when SEQ is IDLE or one of the command's stages (10_state.md R36), and stops
exactly at the stages that table does not give the command; that it stops there is the model's choice (log entry 9). -/
def Obligations.CommandsStopOnlyOutsideTheirStages : Prop :=
  ∀ (i : Instr) (s : State),
    ((∃ t, exec i s = .next t) ↔ s.seq = .idle ∨ s.seq ∈ stagesOf i) ∧
    (exec i s = .fault .noStageRule ↔ s.seq ≠ .idle ∧ s.seq ∉ stagesOf i)

/-- A device that does not answer leaves the controller in the same stage: no register, no device, no transaction; the
command goes on waiting (20_memory.md R65, 70_reset_and_hazards.md R252).
That a missing answer is a step is the model's choice (log entry 10). -/
def Obligations.NoAnswerLeavesTheStage : Prop :=
  ∀ (i : Instr) (s : State), s.seq ∈ stagesOf i → s.seq ≠ .idle → nextDraw s = .noAnswer →
    ∃ t, exec i s = .next t ∧ SameRegisters s t ∧ SameDevices s t ∧ SameSurroundings s t ∧ t.trace = s.trace

/-! ### The step -/

/-- A step in which the host issues a word that decodes to `i` is `exec i` at the state with the turn and the host's
operation taken off (30_encoding.md R86; 60_exceptions.md R222).
Whose turn it is, is the model's choice (log entries 5, 6). -/
def Obligations.StepRunsTheIssuedCommand : Prop :=
  ∀ (s : State) (v : Word64) (i : Instr) (ops : List HostOp), s.seq = .idle → decode (lo32 v) = .ok i →
    s.program = .wr HostReg.cmd.index v :: ops →
    (∀ ts, s.turns = .host :: ts → step s = exec i { s with turns := ts, program := ops }) ∧
    (s.turns = [] → step s = exec i { s with program := ops })

/-- A controller's step is `exec` of the command in CMD at the state with the turn taken off, when SEQ ≠ IDLE; with
SEQ = IDLE the controller has no step, whatever CMD holds (10_state.md R36, R37).
Whose turn it is, is the model's choice (log entry 6). -/
def Obligations.StepRunsTheRunningCommand : Prop :=
  (∀ (s : State) (i : Instr), decode s.cmd = .ok i → s.seq ≠ .idle →
    (∀ ts, s.turns = .controller :: ts → step s = exec i { s with turns := ts }) ∧
    (s.turns = [] → step s = exec i s)) ∧
  ∀ (s : State) (ts : List Turn), s.seq = .idle → s.turns = .controller :: ts → step s = .next { s with turns := ts }

/-- The state with a word placed runs exactly that word's command in its next step (30_encoding.md R80, R86).
How a word is placed is the model's choice (log entry 5). -/
def Obligations.PlacedWordRuns : Prop :=
  ∀ (s : State) (w : Nat) (i : Instr), decodeTableWord 32 w = some i →
    step (s.withFetchWord 32 w) = exec i { s with seq := .idle }

/-! ### The host port -/

/-- 60_exceptions.md R227: a host write to CMD, A, MSRIMG or ADDR while BUSY = 1 is dropped; only WOVR changes. -/
def Obligations.HostWriteWhileBusyIsDropped : Prop :=
  ∀ (idx : BitVec 4) (v : Word64) (s : State), s.busy = true → idx = 0 ∨ idx = 2 ∨ idx = 5 ∨ idx = 8 →
    hostWrite idx v s = .next { s with status := { s.status with wovr := true } }

/-- 60_exceptions.md R222: a host write while BUSY = 0: A, MSRIMG and ADDR take the value, CMD accepts the command, every
other index has no effect (R226).
That `trace` is emptied and `commanded` set is the model's record (log entries 7, 21). -/
def Obligations.HostWriteWhileIdle : Prop :=
  ∀ (v : Word64) (s : State), s.busy = false →
    hostWrite 2 v s = .next { s with a := v } ∧
    hostWrite 5 v s = .next { s with msrimg := v } ∧
    hostWrite 8 v s = .next { s with addr := v } ∧
    (∀ i, decode (v.extractLsb' 0 32) = .ok i → hostWrite 0 v s = exec i s) ∧
    (∀ e, decode (v.extractLsb' 0 32) = .error e → hostWrite 0 v s = .next
      { s with
        cmd := v.extractLsb' 0 32, trace := [], commanded := true,
        status := { Status.clear with done := true, fatal := true, err := .illegalCmd } }) ∧
    (∀ idx : BitVec 4, idx ≠ 0 → idx ≠ 2 → idx ≠ 5 → idx ≠ 8 → hostWrite idx v s = .next s)

/-- 60_exceptions.md R226: a host write to a read-only register or to a reserved index has no effect and sets no flag,
whatever BUSY is. -/
def Obligations.HostWriteToReadOnlyHasNoEffect : Prop :=
  ∀ (idx : BitVec 4) (v : Word64) (s : State),
    idx = 1 ∨ idx = 3 ∨ idx = 4 ∨ idx = 6 ∨ idx = 7 ∨ idx = 9 ∨ idx = 10 ∨ 11 ≤ idx.toNat →
    hostWrite idx v s = .next s

/-- 60_exceptions.md R221: a host read returns the register, zero-extended, or 0 for a reserved index, and has no side
effect, whatever BUSY is; only what the host has received changes. -/
def Obligations.HostReadReturnsTheRegister : Prop :=
  ∀ (idx : BitVec 4) (s : State),
    hostRead idx s = { s with rdData := (hostRead idx s).rdData } ∧
    (hostRead 0 s).rdData = s.cmd.setWidth 64 ∧ (hostRead 1 s).rdData = s.statusWord.setWidth 64 ∧
    (hostRead 2 s).rdData = s.a ∧ (hostRead 3 s).rdData = s.r ∧ (hostRead 4 s).rdData = s.msrin ∧
    (hostRead 5 s).rdData = s.msrimg ∧ (hostRead 6 s).rdData = s.cfgraw.setWidth 64 ∧
    (hostRead 7 s).rdData = s.base ∧ (hostRead 8 s).rdData = s.addr ∧ (hostRead 9 s).rdData = s.mmioimg ∧
    (hostRead 10 s).rdData = s.newimg ∧ (11 ≤ idx.toNat → (hostRead idx s).rdData = 0)

/-- 10_state.md R22: the fields of STATUS, BUSY and SEQ as views of the sequencer, reserved bits 0, with the codes of
R25 to R28. -/
def Obligations.StatusWordLayout : Prop :=
  ∀ s : State,
    (s.statusWord.getLsbD 0 = true ↔ s.seq ≠ .idle) ∧
    s.statusWord.getLsbD 1 = s.status.done ∧ s.statusWord.getLsbD 2 = s.status.fatal ∧
    s.statusWord.getLsbD 3 = s.status.warn ∧ s.statusWord.getLsbD 4 = s.status.wovr ∧
    s.statusWord.extractLsb' 5 3 = 0 ∧
    s.statusWord.extractLsb' 8 4 = (match s.status.err with
      | .none => 0 | .access => 1 | .baseDisabled => 2 | .illegalCmd => 3) ∧
    s.statusWord.extractLsb' 12 4 = (match s.status.stage with
      | .idle => 0 | .msrRd => 1 | .msrWr => 2 | .pciRd => 3 | .mmioRdLo => 4 | .mmioRdHi => 5 | .mmioWrLo => 6
      | .mmioWrHi => 7) ∧
    s.statusWord.extractLsb' 16 2 = (match s.status.msrRpt with
      | .notRun => 0 | .alreadyEnabled => 1 | .written => 2) ∧
    s.statusWord.extractLsb' 18 3 = (match s.status.mmioRpt with
      | .notRun => 0 | .writtenLocked => 1 | .alreadyReconciled => 2 | .lockedWithLimitsActive => 3
      | .lockedCannotMirror => 4) ∧
    s.statusWord.getLsbD 21 = s.status.mchOk ∧ s.statusWord.extractLsb' 22 2 = 0 ∧
    s.statusWord.extractLsb' 24 4 = (match s.seq with
      | .idle => 0 | .msrRd => 1 | .msrWr => 2 | .pciRd => 3 | .mmioRdLo => 4 | .mmioRdHi => 5 | .mmioWrLo => 6
      | .mmioWrHi => 7) ∧ s.statusWord.extractLsb' 28 4 = 0

/-- 30_encoding.md R89: ISSUE is a write of the command's word to CMD, DO is ISSUE then WAIT, and WAIT reads STATUS and
stays the next operation while STATUS.BUSY = 1.
The host's program is a list in State (log entry 5). -/
def Obligations.HostOperationsExpand : Prop :=
  ∀ (i : Instr) (s : State),
    hostOperation (.issue i) s = hostOperation (.wr 0 ((encode i).setWidth 64)) s ∧
    hostOperation (.doCmd i) s = hostOperation (.issue i) { s with program := .wait :: s.program } ∧
    hostOperation .wait s = .next
      { s with
        rdData := s.statusWord.setWidth 64
        program := if s.busy = true then .wait :: s.program else s.program }

/-! ### Reset, power-on, the other writers -/

/-- 10_state.md R40: after a reset every register of R20 reads 0 at the host port, SEQ = IDLE, the stored STATUS fields,
LOP, LPOL, LX, LBIT and TLO are 0, and no target device has changed: after a block reset with no write outstanding at a
device (what such a write does is R240's draw), and in the state after power-on. -/
def Obligations.ResetStateReadsZero : Prop :=
  ∀ s t : State, t = State.reset ∨ t = blockReset false s →
    (∀ idx, hostReadValue idx t = 0) ∧ t.seq = .idle ∧ t.status = Status.clear ∧ t.statusWord = 0 ∧ t.lop = 0 ∧
    t.lpol = false ∧ t.lx = false ∧ t.lbit = 0 ∧ t.tlo = 0 ∧ SameDevices s (blockReset false s)

/-- 70_reset_and_hazards.md R240, R241: a block reset leaves every register at its reset value; the devices keep their
state, but that a write outstanding at the reset may have been performed, each device by its own rule.
That the draw stands in the turn, and that the write takes effect in the reset's step, are the model's choices (log
entries 11, 22); `commanded` is its record (log entry 21). -/
def Obligations.BlockResetKeepsTheDevices : Prop :=
  ∀ (landed : Bool) (s : State) (ts : List Turn), s.turns = .blockReset landed :: ts →
    ∃ t, step s = .next t ∧
      SameRegisters State.reset t ∧ t.trace = [] ∧ t.turns = ts ∧ t.pci = s.pci ∧ t.cfg = s.cfg ∧
      t.program = s.program ∧ t.commanded = s.commanded ∧
      (landed = false ∨ (s.seq ≠ .msrWr ∧ s.seq ≠ .mmioWrLo ∧ s.seq ≠ .mmioWrHi) → SameDevices s t) ∧
      (s.locked = true → t.mlo = s.mlo ∧ t.mhi = s.mhi) ∧
      (landed = true → s.seq = .msrWr → SameDevices { s with msr := s.msrin ||| 0x0000800000008000 } t) ∧
      (landed = true → ∀ addr w,
        (s.seq = .mmioWrLo ∧ addr = s.addr ∧ w = lo32 s.newimg ∨
          s.seq = .mmioWrHi ∧ addr = s.addr + 4 ∧ w = hi32 s.newimg) →
        t.msr = s.msr ∧ (∀ other, other ≠ addr → t.mirrorWord other = s.mirrorWord other) ∧
        (s.mirrorWord addr = none → t.stray = s.stray ++ [(addr, w)]) ∧
        ∀ old, s.mirrorWord addr = some old → t.stray = s.stray ∧
          t.mirrorWord addr = some (if s.locked = true then old else w))

/-- 70_reset_and_hazards.md R242: power-on resets RRC as a block reset does and sets the mirror UNLOCKED; every other
device bit is what the platform sets.
That the values stand in the turn is the model's choice (log entry 11), and `commanded` its record (log entry 21). -/
def Obligations.PowerOnUnlocksTheMirror : Prop :=
  ∀ (landed : Bool) (msr : Word64) (mlo mhi pci : Word32) (s : State) (ts : List Turn),
    s.turns = .powerOn landed msr mlo mhi pci :: ts →
    ∃ t, step s = .next t ∧ SameRegisters State.reset t ∧ t.trace = [] ∧ t.locked = false ∧ t.msr = msr ∧
      t.mlo = mlo ∧ t.pci = pci ∧ (∀ j, j < 31 → t.mhi.getLsbD j = mhi.getLsbD j) ∧ t.cfg = s.cfg ∧
      t.commanded = false

/-- The external writer writes only with EXT_WRITERS = true (00_scope.md R8, 20_memory.md R70), firmware only between
power-on and the first command (20_memory.md R62, 70_reset_and_hazards.md R242), and a LOCKED mirror rejects both. A turn
of an agent that may not write changes nothing, the model's choice (log entries 8, 21). -/
def Obligations.ExternalWritersObeyTheRules : Prop :=
  ∀ (s : State) (ts : List Turn) (v : Word64) (w : Word32),
    (s.turns = .extMsrWrite v :: ts →
      step s = .next { s with turns := ts, msr := if s.cfg.extWriters = true then v else s.msr }) ∧
    (s.turns = .extMirrorWrite false w :: ts → step s = .next
      { s with turns := ts, mlo := if s.cfg.extWriters = true ∧ s.locked = false then w else s.mlo }) ∧
    (s.turns = .extMirrorWrite true w :: ts → step s = .next
      { s with turns := ts, mhi := if s.cfg.extWriters = true ∧ s.locked = false then w else s.mhi }) ∧
    (s.turns = .firmwareMsrWrite v :: ts → step s = .next
      { s with turns := ts, msr := if s.commanded = false ∧ s.seq = .idle then v else s.msr }) ∧
    (s.turns = .firmwareMirrorWrite false w :: ts → step s = .next
      { s with
        turns := ts
        mlo := if (s.commanded = false ∧ s.seq = .idle) ∧ s.locked = false then w else s.mlo }) ∧
    (s.turns = .firmwareMirrorWrite true w :: ts → step s = .next
      { s with
        turns := ts
        mhi := if (s.commanded = false ∧ s.seq = .idle) ∧ s.locked = false then w else s.mhi })

/-! ### Whole-machine rules -/

/-- 20_memory.md R57: the LOCK state machine of the mirror, row by row, and "No event other than power-on leaves
LOCKED": over every step of every agent. -/
def Obligations.LockStateMachine : Prop :=
  (∀ (s : State) (w : Word32), s.locked = false →
    performMemWrite s.cfg.mirrorPa w s = { s with mlo := w } ∧
    performMemWrite (s.cfg.mirrorPa + 4) w s = { s with mhi := w } ∧
    (performMemWrite s.cfg.mirrorPa w s).locked = false ∧
    (performMemWrite (s.cfg.mirrorPa + 4) w s).locked = w.getLsbD 31) ∧
  (∀ (s : State) (w : Word32), s.locked = true →
    performMemWrite s.cfg.mirrorPa w s = s ∧ performMemWrite (s.cfg.mirrorPa + 4) w s = s) ∧
  (∀ (i : Instr) (s t : State), s.seq = .mmioRdLo ∨ s.seq = .mmioRdHi → exec i s = .next t →
    t.mlo = s.mlo ∧ t.mhi = s.mhi ∧ t.locked = s.locked) ∧
  (∀ (landed : Bool) (msr : Word64) (mlo mhi pci : Word32) (s : State),
    (powerOn landed msr mlo mhi pci s).locked = false) ∧
  ∀ s t : State, step s = .next t → s.locked = true →
    (∀ landed msr mlo mhi pci, nextTurn s ≠ .powerOn landed msr mlo mhi pci) →
    t.locked = true ∧ t.mlo = s.mlo ∧ t.mhi = s.mhi

/-- The mirror becomes LOCKED in a command's step only by a write of its HIGH word with bit 31 = 1 that the command's
last transaction made (20_memory.md R57, R67). -/
def Obligations.OnlyAHighWriteLocks : Prop :=
  ∀ (i : Instr) (s t : State), exec i s = .next t → s.locked = false → t.locked = true →
    ∃ w x, t.trace.getLast? = some x ∧ x.req = .memWrite (s.cfg.mirrorPa + 4) w ∧ w.getLsbD 31 = true ∧ t.mhi = w

/-- What a step can change outside RRC, and in which turn: the PCI dword only by the platform between commands or at
power-on (20_memory.md R63); the MSR and the mirror only by a controller's step at a write stage, by the external writer
when it is present, by firmware before the first command, by a block reset with a write outstanding, or at power-on (R62,
R64, R67, R68, R70; 00_scope.md R8); the configuration never (00_scope.md R5). The platform's turn is log entry 15,
firmware's log entry 21, the reset's draw log entries 11 and 22. -/
def Obligations.DevicesChangeOnlyInTheirTurns : Prop :=
  ∀ s t : State, step s = .next t →
    t.cfg = s.cfg ∧
    (t.pci ≠ s.pci → (s.busy = false ∧ ∃ d, nextTurn s = .platformPci d) ∨
      ∃ landed msr mlo mhi pci, nextTurn s = .powerOn landed msr mlo mhi pci) ∧
    (t.msr ≠ s.msr →
      (nextTurn s = .controller ∧ s.seq = .msrWr ∧ t.msr = s.msrin ||| 0x0000800000008000) ∨
      (s.cfg.extWriters = true ∧ ∃ v, nextTurn s = .extMsrWrite v) ∨
      (s.commanded = false ∧ s.busy = false ∧ ∃ v, nextTurn s = .firmwareMsrWrite v) ∨
      (nextTurn s = .blockReset true ∧ s.seq = .msrWr) ∨
      ∃ landed msr mlo mhi pci, nextTurn s = .powerOn landed msr mlo mhi pci) ∧
    (t.mlo ≠ s.mlo ∨ t.mhi ≠ s.mhi →
      (nextTurn s = .controller ∧ (s.seq = .mmioWrLo ∨ s.seq = .mmioWrHi)) ∨
      (s.cfg.extWriters = true ∧ ∃ high w, nextTurn s = .extMirrorWrite high w) ∨
      (s.commanded = false ∧ s.busy = false ∧ ∃ high w, nextTurn s = .firmwareMirrorWrite high w) ∨
      (nextTurn s = .blockReset true ∧ (s.seq = .mmioWrLo ∨ s.seq = .mmioWrHi)) ∨
      ∃ landed msr mlo mhi pci, nextTurn s = .powerOn landed msr mlo mhi pci)

/-- Which registers a command's step may change, by the command (10_state.md, section 6): every register that table does
not list for the command keeps its value. CMD and STATUS change as R86 and the completion primitives say; A never. -/
def Obligations.CommandsWriteOnlyTheirRegisters : Prop :=
  ∀ (i : Instr) (s t : State), exec i s = .next t →
    t.a = s.a ∧
    (s.busy = true → t.cmd = s.cmd ∧ t.status.wovr = s.status.wovr) ∧
    ((∀ b, i ≠ .testf b) → (∀ b x, i ≠ .withf b x) → t.r = s.r) ∧
    (¬ i.hasMsrPart → t.msrin = s.msrin ∧ t.msrimg = s.msrimg ∧ t.msr = s.msr) ∧
    (¬ i.hasPciPart → t.cfgraw = s.cfgraw ∧ t.base = s.base ∧ t.addr = s.addr) ∧
    ((∀ p, ¬ i.hasMmioPart p) → t.mmioimg = s.mmioimg ∧ t.newimg = s.newimg ∧ t.tlo = s.tlo ∧ t.mlo = s.mlo ∧
      t.mhi = s.mhi ∧ t.stray = s.stray)

/-- 60_exceptions.md R225: the controller is deterministic. Two steps of the same command from the same registers, with
the same transactions so far, that get the same response leave the same registers, whatever the devices hold. -/
def Obligations.SameResponsesSameResults : Prop :=
  ∀ (i : Instr) (s₁ s₂ t₁ t₂ : State), SameRegisters s₁ s₂ → s₁.cfg = s₂.cfg → s₁.trace = s₂.trace →
    exec i s₁ = .next t₁ → exec i s₂ = .next t₂ →
    (t₁.trace.map (·.resp) = t₂.trace.map (·.resp)) → SameRegisters t₁ t₂ ∧ t₁.trace = t₂.trace

/-! ### Invariants -/

/-- The state after reset meets every invariant. -/
def Obligations.ResetMeetsTheInvariants : Prop :=
  RegisterInv State.reset ∧ CompletionStatusListed State.reset ∧ TraceInv State.reset ∧
    WriteAvoidance State.reset ∧ ReportsTrue State.reset ∧ WriteWindow State.reset

/-- Every step keeps the invariant of RRC's registers (10_state.md R23, R24, R26, R36; 00_scope.md R12; 44 R170). -/
def Obligations.StepKeepsRegisterInv : Prop :=
  ∀ s t : State, RegisterInv s → step s = .next t → RegisterInv t

/-- No step from a state that meets the register invariant stops: RRC has no fault of its own, and every error is a
completion with a STATUS (60_exceptions.md R217, R218, R220; 20_memory.md R65). -/
def Obligations.EveryStepAnswersANextState : Prop :=
  ∀ s : State, RegisterInv s → ∃ t, step s = .next t ∧ RegisterInv t

/-- Every completed command's STATUS is one its rule lists (41_codec.md R103, R104; 42 R121; 43 R141; 44 R162; 45 R197;
30 R85): every step keeps it. -/
def Obligations.StepKeepsCompletionStatusListed : Prop :=
  ∀ s t : State, RegisterInv s → CompletionStatusListed s → step s = .next t → CompletionStatusListed t

/-- The transactions of every command follow its rule's order, stop at the first error and reach only RRC's locations
(45_sequence.md R194, R195; 44 R161; 20 R50): every step keeps it. While a command runs, and in the step that ends it, its
MMIO transactions are at ADDR and ADDR + 4. -/
def Obligations.StepKeepsTraceInv : Prop :=
  ∀ s t : State, RegisterInv s → TraceInv s → step s = .next t →
    TraceInv t ∧ (s.busy = true → ∀ x ∈ t.trace, requestFits t t.addr x)

/-- 44_mmio_reconcile.md R172: a command that reads HIGH with bit 31 = 1 issues no MMIO write; every step keeps it. -/
def Obligations.StepKeepsWriteAvoidance : Prop :=
  ∀ s t : State, RegisterInv s → TraceInv s → WriteAvoidance s → step s = .next t → WriteAvoidance t

/-- STATUS's reports, every code of each, say what the command's transactions showed (10_state.md R27 to R29): every step
keeps it. -/
def Obligations.StepKeepsReportsTrue : Prop :=
  ∀ s t : State, RegisterInv s → TraceInv s → ReportsTrue s → step s = .next t → ReportsTrue t

/-- Between its two writes the mirror holds the new LOW word and is UNLOCKED (20_memory.md R66; 70 R249), without other
writers and with ADDR at the mirror: every step keeps it.
Who else may write is log entry 8. -/
def Obligations.StepKeepsWriteWindow : Prop :=
  ∀ s t : State, WriteWindow s → step s = .next t → WriteWindow t

/-- A command always ends when every device answers (70_reset_and_hazards.md R254): from any state that meets the
register invariant, with a command running and at least seven answers, seven steps of the controller end it.
That the controller moves is the model's schedule (log entry 6). -/
def Obligations.CommandsEndWhenDevicesAnswer : Prop :=
  ∀ s : State, RegisterInv s → s.busy = true → s.turns = [] → s.program = [] → Answered 7 s →
    ∃ t, Host.Core.run core 7 s = .next t ∧ t.seq = .idle ∧ t.status.done = true

/-! ### Whole commands -/

/-- MSRRC, MCHRS and MMIORC, issued by a host that waits, do what their "whole effect, as one pseudocode" says
(42_msr_reconcile.md R121; 43 R141, R142; 44 R162), whatever each device answers.
The host that waits is the model's schedule (log entries 5, 6). -/
def Obligations.StandaloneCommandsRefineTheirPseudocode : Prop :=
  ∀ (i : Instr) (s : State), i = .msrrc ∨ i = .mchrs ∨ (∃ p, i = .mmiorc p) → s.seq = .idle → s.turns = [] →
    s.program = [.issue i] → Answered 4 s →
    Host.Core.run core 5 s = .next (wholeEffect i { s with program := [] })

/-- RUN, issued by a host that waits, does what its pseudocode says: the MSR part, then the PCI part, then the MMIO part,
ended by the first fatal error (45_sequence.md R190 to R194), whatever each device answers.
The host that waits is the model's schedule (log entries 5, 6). -/
def Obligations.RunRefinesItsPseudocode : Prop :=
  ∀ (p : Policy) (s : State), s.seq = .idle → s.turns = [] → s.program = [.issue (.run p)] → Answered 7 s →
    Host.Core.run core 8 s = .next (wholeEffect (.run p) { s with program := [] })
end

