-- ==== Sys2Proof/Laws/Decode.lean ====
section
/-! SUPPORT. What the decoder answers, said once: exactly the command of the one row a word matches. -/

namespace Sys2Proof

/-- Every mask covers the OP field, so a word that matches a row has that row's low bits (30_encoding.md R87). -/
theorem low_bits_of_rowMatches {w : Word32} {r : OpcodeRow} (hr : r ∈ opcodeRows) (h : rowMatches r w = true) :
    w &&& 15 = r.value := by
  have hw : w &&& r.mask = r.value := by simpa [rowMatches] using h
  have hm : ∀ r ∈ opcodeRows, r.mask &&& 15 = 15 ∧ r.value &&& 15 = r.value := by decide
  obtain ⟨m, v⟩ := hm r hr
  calc w &&& 15 = w &&& r.mask &&& 15 := by rw [BitVec.and_assoc, m]
    _ = r.value := by rw [hw, v]

/-- The rows have distinct OP values (30_encoding.md R87). -/
theorem row_unique {w : Word32} {r r' : OpcodeRow} (hr : r ∈ opcodeRows) (hr' : r' ∈ opcodeRows)
    (h : rowMatches r w = true) (h' : rowMatches r' w = true) : r = r' := by
  have e := (low_bits_of_rowMatches hr h).symm.trans (low_bits_of_rowMatches hr' h')
  have distinct : ∀ r ∈ opcodeRows, ∀ r' ∈ opcodeRows, r.value = r'.value → r = r' := by decide
  exact distinct r hr r' hr' e

/-- The decoder's answer, from the table. -/
theorem decode_ok_iff (w : Word32) (i : Instr) :
    decode w = .ok i ↔ ∃ r ∈ opcodeRows, rowMatches r w = true ∧ i = commandOf r.mnemonic w := by
  unfold decode
  cases h : opcodeRows.find? (fun r => rowMatches r w) with
  | none =>
    rw [List.find?_eq_none] at h
    simp only [reduceCtorEq, false_iff, not_exists, not_and]
    exact fun r hr hm => absurd hm (h r hr)
  | some r =>
    have h₁ := List.find?_some h
    have h₂ := List.mem_of_find?_eq_some h
    simp only [Except.ok.injEq]
    constructor
    · rintro rfl
      exact ⟨r, h₂, h₁, rfl⟩
    · rintro ⟨r', hr', hm, rfl⟩
      rw [row_unique h₂ hr' h₁ hm]

/-- The decoder rejects exactly the words that match no row. -/
theorem decode_error_iff (w : Word32) :
    (∃ e, decode w = .error e) ↔ ∀ r ∈ opcodeRows, rowMatches r w = false := by
  unfold decode
  cases h : opcodeRows.find? (fun r => rowMatches r w) with
  | none =>
    rw [List.find?_eq_none] at h
    simpa using h
  | some r =>
    have h₁ := List.find?_some h
    have h₂ := List.mem_of_find?_eq_some h
    simp only [reduceCtorEq, exists_false, false_iff, not_forall]
    exact ⟨r, h₂, by simp [h₁]⟩

end Sys2Proof
end

