-- ==== Sys2Proof/Laws/State.lean ====
section
/-! SUPPORT. One lemma per field per update of the state: what each named update does to each field, so that no proof
unfolds a record update. The lemmas of an update say first what it writes, then that every other field is kept. -/

namespace Sys2Proof.Machine

/-! ### Completion primitives -/

@[simp] theorem complete_status (s : State) : (complete s).status = { s.status with done := true } := rfl
@[simp] theorem complete_seq (s : State) : (complete s).seq = .idle := rfl
@[simp] theorem complete_cmd (s : State) : (complete s).cmd = s.cmd := rfl
@[simp] theorem complete_a (s : State) : (complete s).a = s.a := rfl
@[simp] theorem complete_r (s : State) : (complete s).r = s.r := rfl
@[simp] theorem complete_msrin (s : State) : (complete s).msrin = s.msrin := rfl
@[simp] theorem complete_msrimg (s : State) : (complete s).msrimg = s.msrimg := rfl
@[simp] theorem complete_cfgraw (s : State) : (complete s).cfgraw = s.cfgraw := rfl
@[simp] theorem complete_base (s : State) : (complete s).base = s.base := rfl
@[simp] theorem complete_addr (s : State) : (complete s).addr = s.addr := rfl
@[simp] theorem complete_mmioimg (s : State) : (complete s).mmioimg = s.mmioimg := rfl
@[simp] theorem complete_newimg (s : State) : (complete s).newimg = s.newimg := rfl
@[simp] theorem complete_tlo (s : State) : (complete s).tlo = s.tlo := rfl
@[simp] theorem complete_msr (s : State) : (complete s).msr = s.msr := rfl
@[simp] theorem complete_mlo (s : State) : (complete s).mlo = s.mlo := rfl
@[simp] theorem complete_mhi (s : State) : (complete s).mhi = s.mhi := rfl
@[simp] theorem complete_pci (s : State) : (complete s).pci = s.pci := rfl
@[simp] theorem complete_stray (s : State) : (complete s).stray = s.stray := rfl
@[simp] theorem complete_trace (s : State) : (complete s).trace = s.trace := rfl
@[simp] theorem complete_program (s : State) : (complete s).program = s.program := rfl
@[simp] theorem complete_rdData (s : State) : (complete s).rdData = s.rdData := rfl
@[simp] theorem complete_turns (s : State) : (complete s).turns = s.turns := rfl
@[simp] theorem complete_draws (s : State) : (complete s).draws = s.draws := rfl
@[simp] theorem complete_drawCtr (s : State) : (complete s).drawCtr = s.drawCtr := rfl
@[simp] theorem complete_cfg (s : State) : (complete s).cfg = s.cfg := rfl
@[simp] theorem complete_commanded (s : State) : (complete s).commanded = s.commanded := rfl

@[simp] theorem warn_status (c : MmioReport) (s : State) : (warn c s).status = { s.status with warn := true, mmioRpt := c } := rfl
@[simp] theorem warn_cmd (c : MmioReport) (s : State) : (warn c s).cmd = s.cmd := rfl
@[simp] theorem warn_a (c : MmioReport) (s : State) : (warn c s).a = s.a := rfl
@[simp] theorem warn_r (c : MmioReport) (s : State) : (warn c s).r = s.r := rfl
@[simp] theorem warn_msrin (c : MmioReport) (s : State) : (warn c s).msrin = s.msrin := rfl
@[simp] theorem warn_msrimg (c : MmioReport) (s : State) : (warn c s).msrimg = s.msrimg := rfl
@[simp] theorem warn_cfgraw (c : MmioReport) (s : State) : (warn c s).cfgraw = s.cfgraw := rfl
@[simp] theorem warn_base (c : MmioReport) (s : State) : (warn c s).base = s.base := rfl
@[simp] theorem warn_addr (c : MmioReport) (s : State) : (warn c s).addr = s.addr := rfl
@[simp] theorem warn_mmioimg (c : MmioReport) (s : State) : (warn c s).mmioimg = s.mmioimg := rfl
@[simp] theorem warn_newimg (c : MmioReport) (s : State) : (warn c s).newimg = s.newimg := rfl
@[simp] theorem warn_seq (c : MmioReport) (s : State) : (warn c s).seq = s.seq := rfl
@[simp] theorem warn_tlo (c : MmioReport) (s : State) : (warn c s).tlo = s.tlo := rfl
@[simp] theorem warn_msr (c : MmioReport) (s : State) : (warn c s).msr = s.msr := rfl
@[simp] theorem warn_mlo (c : MmioReport) (s : State) : (warn c s).mlo = s.mlo := rfl
@[simp] theorem warn_mhi (c : MmioReport) (s : State) : (warn c s).mhi = s.mhi := rfl
@[simp] theorem warn_pci (c : MmioReport) (s : State) : (warn c s).pci = s.pci := rfl
@[simp] theorem warn_stray (c : MmioReport) (s : State) : (warn c s).stray = s.stray := rfl
@[simp] theorem warn_trace (c : MmioReport) (s : State) : (warn c s).trace = s.trace := rfl
@[simp] theorem warn_program (c : MmioReport) (s : State) : (warn c s).program = s.program := rfl
@[simp] theorem warn_rdData (c : MmioReport) (s : State) : (warn c s).rdData = s.rdData := rfl
@[simp] theorem warn_turns (c : MmioReport) (s : State) : (warn c s).turns = s.turns := rfl
@[simp] theorem warn_draws (c : MmioReport) (s : State) : (warn c s).draws = s.draws := rfl
@[simp] theorem warn_drawCtr (c : MmioReport) (s : State) : (warn c s).drawCtr = s.drawCtr := rfl
@[simp] theorem warn_cfg (c : MmioReport) (s : State) : (warn c s).cfg = s.cfg := rfl
@[simp] theorem warn_commanded (c : MmioReport) (s : State) : (warn c s).commanded = s.commanded := rfl

@[simp] theorem setMsrReport_status (c : MsrReport) (s : State) : (setMsrReport c s).status = { s.status with msrRpt := c } := rfl
@[simp] theorem setMsrReport_cmd (c : MsrReport) (s : State) : (setMsrReport c s).cmd = s.cmd := rfl
@[simp] theorem setMsrReport_a (c : MsrReport) (s : State) : (setMsrReport c s).a = s.a := rfl
@[simp] theorem setMsrReport_r (c : MsrReport) (s : State) : (setMsrReport c s).r = s.r := rfl
@[simp] theorem setMsrReport_msrin (c : MsrReport) (s : State) : (setMsrReport c s).msrin = s.msrin := rfl
@[simp] theorem setMsrReport_msrimg (c : MsrReport) (s : State) : (setMsrReport c s).msrimg = s.msrimg := rfl
@[simp] theorem setMsrReport_cfgraw (c : MsrReport) (s : State) : (setMsrReport c s).cfgraw = s.cfgraw := rfl
@[simp] theorem setMsrReport_base (c : MsrReport) (s : State) : (setMsrReport c s).base = s.base := rfl
@[simp] theorem setMsrReport_addr (c : MsrReport) (s : State) : (setMsrReport c s).addr = s.addr := rfl
@[simp] theorem setMsrReport_mmioimg (c : MsrReport) (s : State) : (setMsrReport c s).mmioimg = s.mmioimg := rfl
@[simp] theorem setMsrReport_newimg (c : MsrReport) (s : State) : (setMsrReport c s).newimg = s.newimg := rfl
@[simp] theorem setMsrReport_seq (c : MsrReport) (s : State) : (setMsrReport c s).seq = s.seq := rfl
@[simp] theorem setMsrReport_tlo (c : MsrReport) (s : State) : (setMsrReport c s).tlo = s.tlo := rfl
@[simp] theorem setMsrReport_msr (c : MsrReport) (s : State) : (setMsrReport c s).msr = s.msr := rfl
@[simp] theorem setMsrReport_mlo (c : MsrReport) (s : State) : (setMsrReport c s).mlo = s.mlo := rfl
@[simp] theorem setMsrReport_mhi (c : MsrReport) (s : State) : (setMsrReport c s).mhi = s.mhi := rfl
@[simp] theorem setMsrReport_pci (c : MsrReport) (s : State) : (setMsrReport c s).pci = s.pci := rfl
@[simp] theorem setMsrReport_stray (c : MsrReport) (s : State) : (setMsrReport c s).stray = s.stray := rfl
@[simp] theorem setMsrReport_trace (c : MsrReport) (s : State) : (setMsrReport c s).trace = s.trace := rfl
@[simp] theorem setMsrReport_program (c : MsrReport) (s : State) : (setMsrReport c s).program = s.program := rfl
@[simp] theorem setMsrReport_rdData (c : MsrReport) (s : State) : (setMsrReport c s).rdData = s.rdData := rfl
@[simp] theorem setMsrReport_turns (c : MsrReport) (s : State) : (setMsrReport c s).turns = s.turns := rfl
@[simp] theorem setMsrReport_draws (c : MsrReport) (s : State) : (setMsrReport c s).draws = s.draws := rfl
@[simp] theorem setMsrReport_drawCtr (c : MsrReport) (s : State) : (setMsrReport c s).drawCtr = s.drawCtr := rfl
@[simp] theorem setMsrReport_cfg (c : MsrReport) (s : State) : (setMsrReport c s).cfg = s.cfg := rfl
@[simp] theorem setMsrReport_commanded (c : MsrReport) (s : State) : (setMsrReport c s).commanded = s.commanded := rfl

@[simp] theorem setMmioReport_status (c : MmioReport) (s : State) : (setMmioReport c s).status = { s.status with mmioRpt := c } := rfl
@[simp] theorem setMmioReport_cmd (c : MmioReport) (s : State) : (setMmioReport c s).cmd = s.cmd := rfl
@[simp] theorem setMmioReport_a (c : MmioReport) (s : State) : (setMmioReport c s).a = s.a := rfl
@[simp] theorem setMmioReport_r (c : MmioReport) (s : State) : (setMmioReport c s).r = s.r := rfl
@[simp] theorem setMmioReport_msrin (c : MmioReport) (s : State) : (setMmioReport c s).msrin = s.msrin := rfl
@[simp] theorem setMmioReport_msrimg (c : MmioReport) (s : State) : (setMmioReport c s).msrimg = s.msrimg := rfl
@[simp] theorem setMmioReport_cfgraw (c : MmioReport) (s : State) : (setMmioReport c s).cfgraw = s.cfgraw := rfl
@[simp] theorem setMmioReport_base (c : MmioReport) (s : State) : (setMmioReport c s).base = s.base := rfl
@[simp] theorem setMmioReport_addr (c : MmioReport) (s : State) : (setMmioReport c s).addr = s.addr := rfl
@[simp] theorem setMmioReport_mmioimg (c : MmioReport) (s : State) : (setMmioReport c s).mmioimg = s.mmioimg := rfl
@[simp] theorem setMmioReport_newimg (c : MmioReport) (s : State) : (setMmioReport c s).newimg = s.newimg := rfl
@[simp] theorem setMmioReport_seq (c : MmioReport) (s : State) : (setMmioReport c s).seq = s.seq := rfl
@[simp] theorem setMmioReport_tlo (c : MmioReport) (s : State) : (setMmioReport c s).tlo = s.tlo := rfl
@[simp] theorem setMmioReport_msr (c : MmioReport) (s : State) : (setMmioReport c s).msr = s.msr := rfl
@[simp] theorem setMmioReport_mlo (c : MmioReport) (s : State) : (setMmioReport c s).mlo = s.mlo := rfl
@[simp] theorem setMmioReport_mhi (c : MmioReport) (s : State) : (setMmioReport c s).mhi = s.mhi := rfl
@[simp] theorem setMmioReport_pci (c : MmioReport) (s : State) : (setMmioReport c s).pci = s.pci := rfl
@[simp] theorem setMmioReport_stray (c : MmioReport) (s : State) : (setMmioReport c s).stray = s.stray := rfl
@[simp] theorem setMmioReport_trace (c : MmioReport) (s : State) : (setMmioReport c s).trace = s.trace := rfl
@[simp] theorem setMmioReport_program (c : MmioReport) (s : State) : (setMmioReport c s).program = s.program := rfl
@[simp] theorem setMmioReport_rdData (c : MmioReport) (s : State) : (setMmioReport c s).rdData = s.rdData := rfl
@[simp] theorem setMmioReport_turns (c : MmioReport) (s : State) : (setMmioReport c s).turns = s.turns := rfl
@[simp] theorem setMmioReport_draws (c : MmioReport) (s : State) : (setMmioReport c s).draws = s.draws := rfl
@[simp] theorem setMmioReport_drawCtr (c : MmioReport) (s : State) : (setMmioReport c s).drawCtr = s.drawCtr := rfl
@[simp] theorem setMmioReport_cfg (c : MmioReport) (s : State) : (setMmioReport c s).cfg = s.cfg := rfl
@[simp] theorem setMmioReport_commanded (c : MmioReport) (s : State) : (setMmioReport c s).commanded = s.commanded := rfl

@[simp] theorem setMchOk_status (s : State) : (setMchOk s).status = { s.status with mchOk := true } := rfl
@[simp] theorem setMchOk_cmd (s : State) : (setMchOk s).cmd = s.cmd := rfl
@[simp] theorem setMchOk_a (s : State) : (setMchOk s).a = s.a := rfl
@[simp] theorem setMchOk_r (s : State) : (setMchOk s).r = s.r := rfl
@[simp] theorem setMchOk_msrin (s : State) : (setMchOk s).msrin = s.msrin := rfl
@[simp] theorem setMchOk_msrimg (s : State) : (setMchOk s).msrimg = s.msrimg := rfl
@[simp] theorem setMchOk_cfgraw (s : State) : (setMchOk s).cfgraw = s.cfgraw := rfl
@[simp] theorem setMchOk_base (s : State) : (setMchOk s).base = s.base := rfl
@[simp] theorem setMchOk_addr (s : State) : (setMchOk s).addr = s.addr := rfl
@[simp] theorem setMchOk_mmioimg (s : State) : (setMchOk s).mmioimg = s.mmioimg := rfl
@[simp] theorem setMchOk_newimg (s : State) : (setMchOk s).newimg = s.newimg := rfl
@[simp] theorem setMchOk_seq (s : State) : (setMchOk s).seq = s.seq := rfl
@[simp] theorem setMchOk_tlo (s : State) : (setMchOk s).tlo = s.tlo := rfl
@[simp] theorem setMchOk_msr (s : State) : (setMchOk s).msr = s.msr := rfl
@[simp] theorem setMchOk_mlo (s : State) : (setMchOk s).mlo = s.mlo := rfl
@[simp] theorem setMchOk_mhi (s : State) : (setMchOk s).mhi = s.mhi := rfl
@[simp] theorem setMchOk_pci (s : State) : (setMchOk s).pci = s.pci := rfl
@[simp] theorem setMchOk_stray (s : State) : (setMchOk s).stray = s.stray := rfl
@[simp] theorem setMchOk_trace (s : State) : (setMchOk s).trace = s.trace := rfl
@[simp] theorem setMchOk_program (s : State) : (setMchOk s).program = s.program := rfl
@[simp] theorem setMchOk_rdData (s : State) : (setMchOk s).rdData = s.rdData := rfl
@[simp] theorem setMchOk_turns (s : State) : (setMchOk s).turns = s.turns := rfl
@[simp] theorem setMchOk_draws (s : State) : (setMchOk s).draws = s.draws := rfl
@[simp] theorem setMchOk_drawCtr (s : State) : (setMchOk s).drawCtr = s.drawCtr := rfl
@[simp] theorem setMchOk_cfg (s : State) : (setMchOk s).cfg = s.cfg := rfl
@[simp] theorem setMchOk_commanded (s : State) : (setMchOk s).commanded = s.commanded := rfl

@[simp] theorem setWovr_status (s : State) : (setWovr s).status = { s.status with wovr := true } := rfl
@[simp] theorem setWovr_cmd (s : State) : (setWovr s).cmd = s.cmd := rfl
@[simp] theorem setWovr_a (s : State) : (setWovr s).a = s.a := rfl
@[simp] theorem setWovr_r (s : State) : (setWovr s).r = s.r := rfl
@[simp] theorem setWovr_msrin (s : State) : (setWovr s).msrin = s.msrin := rfl
@[simp] theorem setWovr_msrimg (s : State) : (setWovr s).msrimg = s.msrimg := rfl
@[simp] theorem setWovr_cfgraw (s : State) : (setWovr s).cfgraw = s.cfgraw := rfl
@[simp] theorem setWovr_base (s : State) : (setWovr s).base = s.base := rfl
@[simp] theorem setWovr_addr (s : State) : (setWovr s).addr = s.addr := rfl
@[simp] theorem setWovr_mmioimg (s : State) : (setWovr s).mmioimg = s.mmioimg := rfl
@[simp] theorem setWovr_newimg (s : State) : (setWovr s).newimg = s.newimg := rfl
@[simp] theorem setWovr_seq (s : State) : (setWovr s).seq = s.seq := rfl
@[simp] theorem setWovr_tlo (s : State) : (setWovr s).tlo = s.tlo := rfl
@[simp] theorem setWovr_msr (s : State) : (setWovr s).msr = s.msr := rfl
@[simp] theorem setWovr_mlo (s : State) : (setWovr s).mlo = s.mlo := rfl
@[simp] theorem setWovr_mhi (s : State) : (setWovr s).mhi = s.mhi := rfl
@[simp] theorem setWovr_pci (s : State) : (setWovr s).pci = s.pci := rfl
@[simp] theorem setWovr_stray (s : State) : (setWovr s).stray = s.stray := rfl
@[simp] theorem setWovr_trace (s : State) : (setWovr s).trace = s.trace := rfl
@[simp] theorem setWovr_program (s : State) : (setWovr s).program = s.program := rfl
@[simp] theorem setWovr_rdData (s : State) : (setWovr s).rdData = s.rdData := rfl
@[simp] theorem setWovr_turns (s : State) : (setWovr s).turns = s.turns := rfl
@[simp] theorem setWovr_draws (s : State) : (setWovr s).draws = s.draws := rfl
@[simp] theorem setWovr_drawCtr (s : State) : (setWovr s).drawCtr = s.drawCtr := rfl
@[simp] theorem setWovr_cfg (s : State) : (setWovr s).cfg = s.cfg := rfl
@[simp] theorem setWovr_commanded (s : State) : (setWovr s).commanded = s.commanded := rfl

/-! ### Acceptance and the error entry -/

@[simp] theorem accept_cmd (w : Word32) (s : State) : (accept w s).cmd = w := rfl
@[simp] theorem accept_status (w : Word32) (s : State) : (accept w s).status = Status.clear := rfl
@[simp] theorem accept_trace (w : Word32) (s : State) : (accept w s).trace = [] := rfl
@[simp] theorem accept_a (w : Word32) (s : State) : (accept w s).a = s.a := rfl
@[simp] theorem accept_r (w : Word32) (s : State) : (accept w s).r = s.r := rfl
@[simp] theorem accept_msrin (w : Word32) (s : State) : (accept w s).msrin = s.msrin := rfl
@[simp] theorem accept_msrimg (w : Word32) (s : State) : (accept w s).msrimg = s.msrimg := rfl
@[simp] theorem accept_cfgraw (w : Word32) (s : State) : (accept w s).cfgraw = s.cfgraw := rfl
@[simp] theorem accept_base (w : Word32) (s : State) : (accept w s).base = s.base := rfl
@[simp] theorem accept_addr (w : Word32) (s : State) : (accept w s).addr = s.addr := rfl
@[simp] theorem accept_mmioimg (w : Word32) (s : State) : (accept w s).mmioimg = s.mmioimg := rfl
@[simp] theorem accept_newimg (w : Word32) (s : State) : (accept w s).newimg = s.newimg := rfl
@[simp] theorem accept_seq (w : Word32) (s : State) : (accept w s).seq = s.seq := rfl
@[simp] theorem accept_tlo (w : Word32) (s : State) : (accept w s).tlo = s.tlo := rfl
@[simp] theorem accept_msr (w : Word32) (s : State) : (accept w s).msr = s.msr := rfl
@[simp] theorem accept_mlo (w : Word32) (s : State) : (accept w s).mlo = s.mlo := rfl
@[simp] theorem accept_mhi (w : Word32) (s : State) : (accept w s).mhi = s.mhi := rfl
@[simp] theorem accept_pci (w : Word32) (s : State) : (accept w s).pci = s.pci := rfl
@[simp] theorem accept_stray (w : Word32) (s : State) : (accept w s).stray = s.stray := rfl
@[simp] theorem accept_program (w : Word32) (s : State) : (accept w s).program = s.program := rfl
@[simp] theorem accept_rdData (w : Word32) (s : State) : (accept w s).rdData = s.rdData := rfl
@[simp] theorem accept_turns (w : Word32) (s : State) : (accept w s).turns = s.turns := rfl
@[simp] theorem accept_draws (w : Word32) (s : State) : (accept w s).draws = s.draws := rfl
@[simp] theorem accept_drawCtr (w : Word32) (s : State) : (accept w s).drawCtr = s.drawCtr := rfl
@[simp] theorem accept_cfg (w : Word32) (s : State) : (accept w s).cfg = s.cfg := rfl
@[simp] theorem accept_commanded (w : Word32) (s : State) : (accept w s).commanded = true := rfl

@[simp] theorem goto_seq (q : Seq) (s : State) : (goto q s).seq = q := rfl
@[simp] theorem goto_cmd (q : Seq) (s : State) : (goto q s).cmd = s.cmd := rfl
@[simp] theorem goto_status (q : Seq) (s : State) : (goto q s).status = s.status := rfl
@[simp] theorem goto_a (q : Seq) (s : State) : (goto q s).a = s.a := rfl
@[simp] theorem goto_r (q : Seq) (s : State) : (goto q s).r = s.r := rfl
@[simp] theorem goto_msrin (q : Seq) (s : State) : (goto q s).msrin = s.msrin := rfl
@[simp] theorem goto_msrimg (q : Seq) (s : State) : (goto q s).msrimg = s.msrimg := rfl
@[simp] theorem goto_cfgraw (q : Seq) (s : State) : (goto q s).cfgraw = s.cfgraw := rfl
@[simp] theorem goto_base (q : Seq) (s : State) : (goto q s).base = s.base := rfl
@[simp] theorem goto_addr (q : Seq) (s : State) : (goto q s).addr = s.addr := rfl
@[simp] theorem goto_mmioimg (q : Seq) (s : State) : (goto q s).mmioimg = s.mmioimg := rfl
@[simp] theorem goto_newimg (q : Seq) (s : State) : (goto q s).newimg = s.newimg := rfl
@[simp] theorem goto_tlo (q : Seq) (s : State) : (goto q s).tlo = s.tlo := rfl
@[simp] theorem goto_msr (q : Seq) (s : State) : (goto q s).msr = s.msr := rfl
@[simp] theorem goto_mlo (q : Seq) (s : State) : (goto q s).mlo = s.mlo := rfl
@[simp] theorem goto_mhi (q : Seq) (s : State) : (goto q s).mhi = s.mhi := rfl
@[simp] theorem goto_pci (q : Seq) (s : State) : (goto q s).pci = s.pci := rfl
@[simp] theorem goto_stray (q : Seq) (s : State) : (goto q s).stray = s.stray := rfl
@[simp] theorem goto_trace (q : Seq) (s : State) : (goto q s).trace = s.trace := rfl
@[simp] theorem goto_program (q : Seq) (s : State) : (goto q s).program = s.program := rfl
@[simp] theorem goto_rdData (q : Seq) (s : State) : (goto q s).rdData = s.rdData := rfl
@[simp] theorem goto_turns (q : Seq) (s : State) : (goto q s).turns = s.turns := rfl
@[simp] theorem goto_draws (q : Seq) (s : State) : (goto q s).draws = s.draws := rfl
@[simp] theorem goto_drawCtr (q : Seq) (s : State) : (goto q s).drawCtr = s.drawCtr := rfl
@[simp] theorem goto_cfg (q : Seq) (s : State) : (goto q s).cfg = s.cfg := rfl
@[simp] theorem goto_commanded (q : Seq) (s : State) : (goto q s).commanded = s.commanded := rfl

@[simp] theorem raise_status (e : ErrCode) (q : Seq) (s : State) : (raise e q s).status = { s.status with done := true, fatal := true, err := e, stage := q } := rfl
@[simp] theorem raise_seq (e : ErrCode) (q : Seq) (s : State) : (raise e q s).seq = .idle := rfl
@[simp] theorem raise_cmd (e : ErrCode) (q : Seq) (s : State) : (raise e q s).cmd = s.cmd := rfl
@[simp] theorem raise_a (e : ErrCode) (q : Seq) (s : State) : (raise e q s).a = s.a := rfl
@[simp] theorem raise_r (e : ErrCode) (q : Seq) (s : State) : (raise e q s).r = s.r := rfl
@[simp] theorem raise_msrin (e : ErrCode) (q : Seq) (s : State) : (raise e q s).msrin = s.msrin := rfl
@[simp] theorem raise_msrimg (e : ErrCode) (q : Seq) (s : State) : (raise e q s).msrimg = s.msrimg := rfl
@[simp] theorem raise_cfgraw (e : ErrCode) (q : Seq) (s : State) : (raise e q s).cfgraw = s.cfgraw := rfl
@[simp] theorem raise_base (e : ErrCode) (q : Seq) (s : State) : (raise e q s).base = s.base := rfl
@[simp] theorem raise_addr (e : ErrCode) (q : Seq) (s : State) : (raise e q s).addr = s.addr := rfl
@[simp] theorem raise_mmioimg (e : ErrCode) (q : Seq) (s : State) : (raise e q s).mmioimg = s.mmioimg := rfl
@[simp] theorem raise_newimg (e : ErrCode) (q : Seq) (s : State) : (raise e q s).newimg = s.newimg := rfl
@[simp] theorem raise_tlo (e : ErrCode) (q : Seq) (s : State) : (raise e q s).tlo = s.tlo := rfl
@[simp] theorem raise_msr (e : ErrCode) (q : Seq) (s : State) : (raise e q s).msr = s.msr := rfl
@[simp] theorem raise_mlo (e : ErrCode) (q : Seq) (s : State) : (raise e q s).mlo = s.mlo := rfl
@[simp] theorem raise_mhi (e : ErrCode) (q : Seq) (s : State) : (raise e q s).mhi = s.mhi := rfl
@[simp] theorem raise_pci (e : ErrCode) (q : Seq) (s : State) : (raise e q s).pci = s.pci := rfl
@[simp] theorem raise_stray (e : ErrCode) (q : Seq) (s : State) : (raise e q s).stray = s.stray := rfl
@[simp] theorem raise_trace (e : ErrCode) (q : Seq) (s : State) : (raise e q s).trace = s.trace := rfl
@[simp] theorem raise_program (e : ErrCode) (q : Seq) (s : State) : (raise e q s).program = s.program := rfl
@[simp] theorem raise_rdData (e : ErrCode) (q : Seq) (s : State) : (raise e q s).rdData = s.rdData := rfl
@[simp] theorem raise_turns (e : ErrCode) (q : Seq) (s : State) : (raise e q s).turns = s.turns := rfl
@[simp] theorem raise_draws (e : ErrCode) (q : Seq) (s : State) : (raise e q s).draws = s.draws := rfl
@[simp] theorem raise_drawCtr (e : ErrCode) (q : Seq) (s : State) : (raise e q s).drawCtr = s.drawCtr := rfl
@[simp] theorem raise_cfg (e : ErrCode) (q : Seq) (s : State) : (raise e q s).cfg = s.cfg := rfl
@[simp] theorem raise_commanded (e : ErrCode) (q : Seq) (s : State) : (raise e q s).commanded = s.commanded := rfl

@[simp] theorem raiseAccess_status (q : Seq) (s : State) : (raiseAccess q s).status = { s.status with done := true, fatal := true, err := .access, stage := q } := rfl
@[simp] theorem raiseAccess_seq (q : Seq) (s : State) : (raiseAccess q s).seq = .idle := rfl
@[simp] theorem raiseAccess_cmd (q : Seq) (s : State) : (raiseAccess q s).cmd = s.cmd := rfl
@[simp] theorem raiseAccess_a (q : Seq) (s : State) : (raiseAccess q s).a = s.a := rfl
@[simp] theorem raiseAccess_r (q : Seq) (s : State) : (raiseAccess q s).r = s.r := rfl
@[simp] theorem raiseAccess_msrin (q : Seq) (s : State) : (raiseAccess q s).msrin = s.msrin := rfl
@[simp] theorem raiseAccess_msrimg (q : Seq) (s : State) : (raiseAccess q s).msrimg = s.msrimg := rfl
@[simp] theorem raiseAccess_cfgraw (q : Seq) (s : State) : (raiseAccess q s).cfgraw = s.cfgraw := rfl
@[simp] theorem raiseAccess_base (q : Seq) (s : State) : (raiseAccess q s).base = s.base := rfl
@[simp] theorem raiseAccess_addr (q : Seq) (s : State) : (raiseAccess q s).addr = s.addr := rfl
@[simp] theorem raiseAccess_mmioimg (q : Seq) (s : State) : (raiseAccess q s).mmioimg = s.mmioimg := rfl
@[simp] theorem raiseAccess_newimg (q : Seq) (s : State) : (raiseAccess q s).newimg = s.newimg := rfl
@[simp] theorem raiseAccess_tlo (q : Seq) (s : State) : (raiseAccess q s).tlo = s.tlo := rfl
@[simp] theorem raiseAccess_msr (q : Seq) (s : State) : (raiseAccess q s).msr = s.msr := rfl
@[simp] theorem raiseAccess_mlo (q : Seq) (s : State) : (raiseAccess q s).mlo = s.mlo := rfl
@[simp] theorem raiseAccess_mhi (q : Seq) (s : State) : (raiseAccess q s).mhi = s.mhi := rfl
@[simp] theorem raiseAccess_pci (q : Seq) (s : State) : (raiseAccess q s).pci = s.pci := rfl
@[simp] theorem raiseAccess_stray (q : Seq) (s : State) : (raiseAccess q s).stray = s.stray := rfl
@[simp] theorem raiseAccess_trace (q : Seq) (s : State) : (raiseAccess q s).trace = s.trace := rfl
@[simp] theorem raiseAccess_program (q : Seq) (s : State) : (raiseAccess q s).program = s.program := rfl
@[simp] theorem raiseAccess_rdData (q : Seq) (s : State) : (raiseAccess q s).rdData = s.rdData := rfl
@[simp] theorem raiseAccess_turns (q : Seq) (s : State) : (raiseAccess q s).turns = s.turns := rfl
@[simp] theorem raiseAccess_draws (q : Seq) (s : State) : (raiseAccess q s).draws = s.draws := rfl
@[simp] theorem raiseAccess_drawCtr (q : Seq) (s : State) : (raiseAccess q s).drawCtr = s.drawCtr := rfl
@[simp] theorem raiseAccess_cfg (q : Seq) (s : State) : (raiseAccess q s).cfg = s.cfg := rfl
@[simp] theorem raiseAccess_commanded (q : Seq) (s : State) : (raiseAccess q s).commanded = s.commanded := rfl

@[simp] theorem raiseBaseDisabled_status (s : State) : (raiseBaseDisabled s).status = { s.status with done := true, fatal := true, err := .baseDisabled, stage := .pciRd } := rfl
@[simp] theorem raiseBaseDisabled_seq (s : State) : (raiseBaseDisabled s).seq = .idle := rfl
@[simp] theorem raiseBaseDisabled_cmd (s : State) : (raiseBaseDisabled s).cmd = s.cmd := rfl
@[simp] theorem raiseBaseDisabled_a (s : State) : (raiseBaseDisabled s).a = s.a := rfl
@[simp] theorem raiseBaseDisabled_r (s : State) : (raiseBaseDisabled s).r = s.r := rfl
@[simp] theorem raiseBaseDisabled_msrin (s : State) : (raiseBaseDisabled s).msrin = s.msrin := rfl
@[simp] theorem raiseBaseDisabled_msrimg (s : State) : (raiseBaseDisabled s).msrimg = s.msrimg := rfl
@[simp] theorem raiseBaseDisabled_cfgraw (s : State) : (raiseBaseDisabled s).cfgraw = s.cfgraw := rfl
@[simp] theorem raiseBaseDisabled_base (s : State) : (raiseBaseDisabled s).base = s.base := rfl
@[simp] theorem raiseBaseDisabled_addr (s : State) : (raiseBaseDisabled s).addr = s.addr := rfl
@[simp] theorem raiseBaseDisabled_mmioimg (s : State) : (raiseBaseDisabled s).mmioimg = s.mmioimg := rfl
@[simp] theorem raiseBaseDisabled_newimg (s : State) : (raiseBaseDisabled s).newimg = s.newimg := rfl
@[simp] theorem raiseBaseDisabled_tlo (s : State) : (raiseBaseDisabled s).tlo = s.tlo := rfl
@[simp] theorem raiseBaseDisabled_msr (s : State) : (raiseBaseDisabled s).msr = s.msr := rfl
@[simp] theorem raiseBaseDisabled_mlo (s : State) : (raiseBaseDisabled s).mlo = s.mlo := rfl
@[simp] theorem raiseBaseDisabled_mhi (s : State) : (raiseBaseDisabled s).mhi = s.mhi := rfl
@[simp] theorem raiseBaseDisabled_pci (s : State) : (raiseBaseDisabled s).pci = s.pci := rfl
@[simp] theorem raiseBaseDisabled_stray (s : State) : (raiseBaseDisabled s).stray = s.stray := rfl
@[simp] theorem raiseBaseDisabled_trace (s : State) : (raiseBaseDisabled s).trace = s.trace := rfl
@[simp] theorem raiseBaseDisabled_program (s : State) : (raiseBaseDisabled s).program = s.program := rfl
@[simp] theorem raiseBaseDisabled_rdData (s : State) : (raiseBaseDisabled s).rdData = s.rdData := rfl
@[simp] theorem raiseBaseDisabled_turns (s : State) : (raiseBaseDisabled s).turns = s.turns := rfl
@[simp] theorem raiseBaseDisabled_draws (s : State) : (raiseBaseDisabled s).draws = s.draws := rfl
@[simp] theorem raiseBaseDisabled_drawCtr (s : State) : (raiseBaseDisabled s).drawCtr = s.drawCtr := rfl
@[simp] theorem raiseBaseDisabled_cfg (s : State) : (raiseBaseDisabled s).cfg = s.cfg := rfl
@[simp] theorem raiseBaseDisabled_commanded (s : State) : (raiseBaseDisabled s).commanded = s.commanded := rfl

@[simp] theorem raiseIllegal_status (s : State) : (raiseIllegal s).status = { s.status with done := true, fatal := true, err := .illegalCmd, stage := .idle } := rfl
@[simp] theorem raiseIllegal_seq (s : State) : (raiseIllegal s).seq = .idle := rfl
@[simp] theorem raiseIllegal_cmd (s : State) : (raiseIllegal s).cmd = s.cmd := rfl
@[simp] theorem raiseIllegal_a (s : State) : (raiseIllegal s).a = s.a := rfl
@[simp] theorem raiseIllegal_r (s : State) : (raiseIllegal s).r = s.r := rfl
@[simp] theorem raiseIllegal_msrin (s : State) : (raiseIllegal s).msrin = s.msrin := rfl
@[simp] theorem raiseIllegal_msrimg (s : State) : (raiseIllegal s).msrimg = s.msrimg := rfl
@[simp] theorem raiseIllegal_cfgraw (s : State) : (raiseIllegal s).cfgraw = s.cfgraw := rfl
@[simp] theorem raiseIllegal_base (s : State) : (raiseIllegal s).base = s.base := rfl
@[simp] theorem raiseIllegal_addr (s : State) : (raiseIllegal s).addr = s.addr := rfl
@[simp] theorem raiseIllegal_mmioimg (s : State) : (raiseIllegal s).mmioimg = s.mmioimg := rfl
@[simp] theorem raiseIllegal_newimg (s : State) : (raiseIllegal s).newimg = s.newimg := rfl
@[simp] theorem raiseIllegal_tlo (s : State) : (raiseIllegal s).tlo = s.tlo := rfl
@[simp] theorem raiseIllegal_msr (s : State) : (raiseIllegal s).msr = s.msr := rfl
@[simp] theorem raiseIllegal_mlo (s : State) : (raiseIllegal s).mlo = s.mlo := rfl
@[simp] theorem raiseIllegal_mhi (s : State) : (raiseIllegal s).mhi = s.mhi := rfl
@[simp] theorem raiseIllegal_pci (s : State) : (raiseIllegal s).pci = s.pci := rfl
@[simp] theorem raiseIllegal_stray (s : State) : (raiseIllegal s).stray = s.stray := rfl
@[simp] theorem raiseIllegal_trace (s : State) : (raiseIllegal s).trace = s.trace := rfl
@[simp] theorem raiseIllegal_program (s : State) : (raiseIllegal s).program = s.program := rfl
@[simp] theorem raiseIllegal_rdData (s : State) : (raiseIllegal s).rdData = s.rdData := rfl
@[simp] theorem raiseIllegal_turns (s : State) : (raiseIllegal s).turns = s.turns := rfl
@[simp] theorem raiseIllegal_draws (s : State) : (raiseIllegal s).draws = s.draws := rfl
@[simp] theorem raiseIllegal_drawCtr (s : State) : (raiseIllegal s).drawCtr = s.drawCtr := rfl
@[simp] theorem raiseIllegal_cfg (s : State) : (raiseIllegal s).cfg = s.cfg := rfl
@[simp] theorem raiseIllegal_commanded (s : State) : (raiseIllegal s).commanded = s.commanded := rfl

/-! ### Draws and the record of transactions -/

@[simp] theorem dropDraw_draws (s : State) : (dropDraw s).draws = s.draws.tail := by unfold dropDraw; split <;> simp [*]
@[simp] theorem dropDraw_drawCtr (s : State) : (dropDraw s).drawCtr = if s.draws = [] then s.drawCtr + 1 else s.drawCtr := by unfold dropDraw; split <;> simp [*]
@[simp] theorem dropDraw_cmd (s : State) : (dropDraw s).cmd = s.cmd := by unfold dropDraw; split <;> simp [*]
@[simp] theorem dropDraw_status (s : State) : (dropDraw s).status = s.status := by unfold dropDraw; split <;> simp [*]
@[simp] theorem dropDraw_a (s : State) : (dropDraw s).a = s.a := by unfold dropDraw; split <;> simp [*]
@[simp] theorem dropDraw_r (s : State) : (dropDraw s).r = s.r := by unfold dropDraw; split <;> simp [*]
@[simp] theorem dropDraw_msrin (s : State) : (dropDraw s).msrin = s.msrin := by unfold dropDraw; split <;> simp [*]
@[simp] theorem dropDraw_msrimg (s : State) : (dropDraw s).msrimg = s.msrimg := by unfold dropDraw; split <;> simp [*]
@[simp] theorem dropDraw_cfgraw (s : State) : (dropDraw s).cfgraw = s.cfgraw := by unfold dropDraw; split <;> simp [*]
@[simp] theorem dropDraw_base (s : State) : (dropDraw s).base = s.base := by unfold dropDraw; split <;> simp [*]
@[simp] theorem dropDraw_addr (s : State) : (dropDraw s).addr = s.addr := by unfold dropDraw; split <;> simp [*]
@[simp] theorem dropDraw_mmioimg (s : State) : (dropDraw s).mmioimg = s.mmioimg := by unfold dropDraw; split <;> simp [*]
@[simp] theorem dropDraw_newimg (s : State) : (dropDraw s).newimg = s.newimg := by unfold dropDraw; split <;> simp [*]
@[simp] theorem dropDraw_seq (s : State) : (dropDraw s).seq = s.seq := by unfold dropDraw; split <;> simp [*]
@[simp] theorem dropDraw_tlo (s : State) : (dropDraw s).tlo = s.tlo := by unfold dropDraw; split <;> simp [*]
@[simp] theorem dropDraw_msr (s : State) : (dropDraw s).msr = s.msr := by unfold dropDraw; split <;> simp [*]
@[simp] theorem dropDraw_mlo (s : State) : (dropDraw s).mlo = s.mlo := by unfold dropDraw; split <;> simp [*]
@[simp] theorem dropDraw_mhi (s : State) : (dropDraw s).mhi = s.mhi := by unfold dropDraw; split <;> simp [*]
@[simp] theorem dropDraw_pci (s : State) : (dropDraw s).pci = s.pci := by unfold dropDraw; split <;> simp [*]
@[simp] theorem dropDraw_stray (s : State) : (dropDraw s).stray = s.stray := by unfold dropDraw; split <;> simp [*]
@[simp] theorem dropDraw_trace (s : State) : (dropDraw s).trace = s.trace := by unfold dropDraw; split <;> simp [*]
@[simp] theorem dropDraw_program (s : State) : (dropDraw s).program = s.program := by unfold dropDraw; split <;> simp [*]
@[simp] theorem dropDraw_rdData (s : State) : (dropDraw s).rdData = s.rdData := by unfold dropDraw; split <;> simp [*]
@[simp] theorem dropDraw_turns (s : State) : (dropDraw s).turns = s.turns := by unfold dropDraw; split <;> simp [*]
@[simp] theorem dropDraw_cfg (s : State) : (dropDraw s).cfg = s.cfg := by unfold dropDraw; split <;> simp [*]
@[simp] theorem dropDraw_commanded (s : State) : (dropDraw s).commanded = s.commanded := by unfold dropDraw; split <;> simp [*]

@[simp] theorem record_trace (q : Seq) (req : Request) (resp : Response) (s : State) : (record q req resp s).trace = s.trace ++ [⟨q, req, resp⟩] := rfl
@[simp] theorem record_cmd (q : Seq) (req : Request) (resp : Response) (s : State) : (record q req resp s).cmd = s.cmd := rfl
@[simp] theorem record_status (q : Seq) (req : Request) (resp : Response) (s : State) : (record q req resp s).status = s.status := rfl
@[simp] theorem record_a (q : Seq) (req : Request) (resp : Response) (s : State) : (record q req resp s).a = s.a := rfl
@[simp] theorem record_r (q : Seq) (req : Request) (resp : Response) (s : State) : (record q req resp s).r = s.r := rfl
@[simp] theorem record_msrin (q : Seq) (req : Request) (resp : Response) (s : State) : (record q req resp s).msrin = s.msrin := rfl
@[simp] theorem record_msrimg (q : Seq) (req : Request) (resp : Response) (s : State) : (record q req resp s).msrimg = s.msrimg := rfl
@[simp] theorem record_cfgraw (q : Seq) (req : Request) (resp : Response) (s : State) : (record q req resp s).cfgraw = s.cfgraw := rfl
@[simp] theorem record_base (q : Seq) (req : Request) (resp : Response) (s : State) : (record q req resp s).base = s.base := rfl
@[simp] theorem record_addr (q : Seq) (req : Request) (resp : Response) (s : State) : (record q req resp s).addr = s.addr := rfl
@[simp] theorem record_mmioimg (q : Seq) (req : Request) (resp : Response) (s : State) : (record q req resp s).mmioimg = s.mmioimg := rfl
@[simp] theorem record_newimg (q : Seq) (req : Request) (resp : Response) (s : State) : (record q req resp s).newimg = s.newimg := rfl
@[simp] theorem record_seq (q : Seq) (req : Request) (resp : Response) (s : State) : (record q req resp s).seq = s.seq := rfl
@[simp] theorem record_tlo (q : Seq) (req : Request) (resp : Response) (s : State) : (record q req resp s).tlo = s.tlo := rfl
@[simp] theorem record_msr (q : Seq) (req : Request) (resp : Response) (s : State) : (record q req resp s).msr = s.msr := rfl
@[simp] theorem record_mlo (q : Seq) (req : Request) (resp : Response) (s : State) : (record q req resp s).mlo = s.mlo := rfl
@[simp] theorem record_mhi (q : Seq) (req : Request) (resp : Response) (s : State) : (record q req resp s).mhi = s.mhi := rfl
@[simp] theorem record_pci (q : Seq) (req : Request) (resp : Response) (s : State) : (record q req resp s).pci = s.pci := rfl
@[simp] theorem record_stray (q : Seq) (req : Request) (resp : Response) (s : State) : (record q req resp s).stray = s.stray := rfl
@[simp] theorem record_program (q : Seq) (req : Request) (resp : Response) (s : State) : (record q req resp s).program = s.program := rfl
@[simp] theorem record_rdData (q : Seq) (req : Request) (resp : Response) (s : State) : (record q req resp s).rdData = s.rdData := rfl
@[simp] theorem record_turns (q : Seq) (req : Request) (resp : Response) (s : State) : (record q req resp s).turns = s.turns := rfl
@[simp] theorem record_draws (q : Seq) (req : Request) (resp : Response) (s : State) : (record q req resp s).draws = s.draws := rfl
@[simp] theorem record_drawCtr (q : Seq) (req : Request) (resp : Response) (s : State) : (record q req resp s).drawCtr = s.drawCtr := rfl
@[simp] theorem record_cfg (q : Seq) (req : Request) (resp : Response) (s : State) : (record q req resp s).cfg = s.cfg := rfl
@[simp] theorem record_commanded (q : Seq) (req : Request) (resp : Response) (s : State) : (record q req resp s).commanded = s.commanded := rfl

/-! ### Device effects -/

@[simp] theorem performMsrWrite_msr (v : Word64) (s : State) : (performMsrWrite v s).msr = v := rfl
@[simp] theorem performMsrWrite_cmd (v : Word64) (s : State) : (performMsrWrite v s).cmd = s.cmd := rfl
@[simp] theorem performMsrWrite_status (v : Word64) (s : State) : (performMsrWrite v s).status = s.status := rfl
@[simp] theorem performMsrWrite_a (v : Word64) (s : State) : (performMsrWrite v s).a = s.a := rfl
@[simp] theorem performMsrWrite_r (v : Word64) (s : State) : (performMsrWrite v s).r = s.r := rfl
@[simp] theorem performMsrWrite_msrin (v : Word64) (s : State) : (performMsrWrite v s).msrin = s.msrin := rfl
@[simp] theorem performMsrWrite_msrimg (v : Word64) (s : State) : (performMsrWrite v s).msrimg = s.msrimg := rfl
@[simp] theorem performMsrWrite_cfgraw (v : Word64) (s : State) : (performMsrWrite v s).cfgraw = s.cfgraw := rfl
@[simp] theorem performMsrWrite_base (v : Word64) (s : State) : (performMsrWrite v s).base = s.base := rfl
@[simp] theorem performMsrWrite_addr (v : Word64) (s : State) : (performMsrWrite v s).addr = s.addr := rfl
@[simp] theorem performMsrWrite_mmioimg (v : Word64) (s : State) : (performMsrWrite v s).mmioimg = s.mmioimg := rfl
@[simp] theorem performMsrWrite_newimg (v : Word64) (s : State) : (performMsrWrite v s).newimg = s.newimg := rfl
@[simp] theorem performMsrWrite_seq (v : Word64) (s : State) : (performMsrWrite v s).seq = s.seq := rfl
@[simp] theorem performMsrWrite_tlo (v : Word64) (s : State) : (performMsrWrite v s).tlo = s.tlo := rfl
@[simp] theorem performMsrWrite_mlo (v : Word64) (s : State) : (performMsrWrite v s).mlo = s.mlo := rfl
@[simp] theorem performMsrWrite_mhi (v : Word64) (s : State) : (performMsrWrite v s).mhi = s.mhi := rfl
@[simp] theorem performMsrWrite_pci (v : Word64) (s : State) : (performMsrWrite v s).pci = s.pci := rfl
@[simp] theorem performMsrWrite_stray (v : Word64) (s : State) : (performMsrWrite v s).stray = s.stray := rfl
@[simp] theorem performMsrWrite_trace (v : Word64) (s : State) : (performMsrWrite v s).trace = s.trace := rfl
@[simp] theorem performMsrWrite_program (v : Word64) (s : State) : (performMsrWrite v s).program = s.program := rfl
@[simp] theorem performMsrWrite_rdData (v : Word64) (s : State) : (performMsrWrite v s).rdData = s.rdData := rfl
@[simp] theorem performMsrWrite_turns (v : Word64) (s : State) : (performMsrWrite v s).turns = s.turns := rfl
@[simp] theorem performMsrWrite_draws (v : Word64) (s : State) : (performMsrWrite v s).draws = s.draws := rfl
@[simp] theorem performMsrWrite_drawCtr (v : Word64) (s : State) : (performMsrWrite v s).drawCtr = s.drawCtr := rfl
@[simp] theorem performMsrWrite_cfg (v : Word64) (s : State) : (performMsrWrite v s).cfg = s.cfg := rfl
@[simp] theorem performMsrWrite_commanded (v : Word64) (s : State) : (performMsrWrite v s).commanded = s.commanded := rfl

@[simp] theorem performMemWrite_cmd (a : Word64) (w : Word32) (s : State) : (performMemWrite a w s).cmd = s.cmd := by
  unfold performMemWrite; repeat (first | rfl | split)
@[simp] theorem performMemWrite_status (a : Word64) (w : Word32) (s : State) : (performMemWrite a w s).status = s.status := by
  unfold performMemWrite; repeat (first | rfl | split)
@[simp] theorem performMemWrite_a (a : Word64) (w : Word32) (s : State) : (performMemWrite a w s).a = s.a := by
  unfold performMemWrite; repeat (first | rfl | split)
@[simp] theorem performMemWrite_r (a : Word64) (w : Word32) (s : State) : (performMemWrite a w s).r = s.r := by
  unfold performMemWrite; repeat (first | rfl | split)
@[simp] theorem performMemWrite_msrin (a : Word64) (w : Word32) (s : State) : (performMemWrite a w s).msrin = s.msrin := by
  unfold performMemWrite; repeat (first | rfl | split)
@[simp] theorem performMemWrite_msrimg (a : Word64) (w : Word32) (s : State) : (performMemWrite a w s).msrimg = s.msrimg := by
  unfold performMemWrite; repeat (first | rfl | split)
@[simp] theorem performMemWrite_cfgraw (a : Word64) (w : Word32) (s : State) : (performMemWrite a w s).cfgraw = s.cfgraw := by
  unfold performMemWrite; repeat (first | rfl | split)
@[simp] theorem performMemWrite_base (a : Word64) (w : Word32) (s : State) : (performMemWrite a w s).base = s.base := by
  unfold performMemWrite; repeat (first | rfl | split)
@[simp] theorem performMemWrite_addr (a : Word64) (w : Word32) (s : State) : (performMemWrite a w s).addr = s.addr := by
  unfold performMemWrite; repeat (first | rfl | split)
@[simp] theorem performMemWrite_mmioimg (a : Word64) (w : Word32) (s : State) : (performMemWrite a w s).mmioimg = s.mmioimg := by
  unfold performMemWrite; repeat (first | rfl | split)
@[simp] theorem performMemWrite_newimg (a : Word64) (w : Word32) (s : State) : (performMemWrite a w s).newimg = s.newimg := by
  unfold performMemWrite; repeat (first | rfl | split)
@[simp] theorem performMemWrite_seq (a : Word64) (w : Word32) (s : State) : (performMemWrite a w s).seq = s.seq := by
  unfold performMemWrite; repeat (first | rfl | split)
@[simp] theorem performMemWrite_tlo (a : Word64) (w : Word32) (s : State) : (performMemWrite a w s).tlo = s.tlo := by
  unfold performMemWrite; repeat (first | rfl | split)
@[simp] theorem performMemWrite_msr (a : Word64) (w : Word32) (s : State) : (performMemWrite a w s).msr = s.msr := by
  unfold performMemWrite; repeat (first | rfl | split)
@[simp] theorem performMemWrite_pci (a : Word64) (w : Word32) (s : State) : (performMemWrite a w s).pci = s.pci := by
  unfold performMemWrite; repeat (first | rfl | split)
@[simp] theorem performMemWrite_trace (a : Word64) (w : Word32) (s : State) : (performMemWrite a w s).trace = s.trace := by
  unfold performMemWrite; repeat (first | rfl | split)
@[simp] theorem performMemWrite_program (a : Word64) (w : Word32) (s : State) : (performMemWrite a w s).program = s.program := by
  unfold performMemWrite; repeat (first | rfl | split)
@[simp] theorem performMemWrite_rdData (a : Word64) (w : Word32) (s : State) : (performMemWrite a w s).rdData = s.rdData := by
  unfold performMemWrite; repeat (first | rfl | split)
@[simp] theorem performMemWrite_turns (a : Word64) (w : Word32) (s : State) : (performMemWrite a w s).turns = s.turns := by
  unfold performMemWrite; repeat (first | rfl | split)
@[simp] theorem performMemWrite_draws (a : Word64) (w : Word32) (s : State) : (performMemWrite a w s).draws = s.draws := by
  unfold performMemWrite; repeat (first | rfl | split)
@[simp] theorem performMemWrite_drawCtr (a : Word64) (w : Word32) (s : State) : (performMemWrite a w s).drawCtr = s.drawCtr := by
  unfold performMemWrite; repeat (first | rfl | split)
@[simp] theorem performMemWrite_cfg (a : Word64) (w : Word32) (s : State) : (performMemWrite a w s).cfg = s.cfg := by
  unfold performMemWrite; repeat (first | rfl | split)
@[simp] theorem performMemWrite_commanded (a : Word64) (w : Word32) (s : State) : (performMemWrite a w s).commanded = s.commanded := by
  unfold performMemWrite; repeat (first | rfl | split)

@[simp] theorem landMsrWrite_msr (l : Bool) (v : Word64) (s : State) : (landMsrWrite l v s).msr = if l then v else s.msr := by cases l <;> rfl
@[simp] theorem landMsrWrite_cmd (l : Bool) (v : Word64) (s : State) : (landMsrWrite l v s).cmd = s.cmd := by cases l <;> rfl
@[simp] theorem landMsrWrite_status (l : Bool) (v : Word64) (s : State) : (landMsrWrite l v s).status = s.status := by cases l <;> rfl
@[simp] theorem landMsrWrite_a (l : Bool) (v : Word64) (s : State) : (landMsrWrite l v s).a = s.a := by cases l <;> rfl
@[simp] theorem landMsrWrite_r (l : Bool) (v : Word64) (s : State) : (landMsrWrite l v s).r = s.r := by cases l <;> rfl
@[simp] theorem landMsrWrite_msrin (l : Bool) (v : Word64) (s : State) : (landMsrWrite l v s).msrin = s.msrin := by cases l <;> rfl
@[simp] theorem landMsrWrite_msrimg (l : Bool) (v : Word64) (s : State) : (landMsrWrite l v s).msrimg = s.msrimg := by cases l <;> rfl
@[simp] theorem landMsrWrite_cfgraw (l : Bool) (v : Word64) (s : State) : (landMsrWrite l v s).cfgraw = s.cfgraw := by cases l <;> rfl
@[simp] theorem landMsrWrite_base (l : Bool) (v : Word64) (s : State) : (landMsrWrite l v s).base = s.base := by cases l <;> rfl
@[simp] theorem landMsrWrite_addr (l : Bool) (v : Word64) (s : State) : (landMsrWrite l v s).addr = s.addr := by cases l <;> rfl
@[simp] theorem landMsrWrite_mmioimg (l : Bool) (v : Word64) (s : State) : (landMsrWrite l v s).mmioimg = s.mmioimg := by cases l <;> rfl
@[simp] theorem landMsrWrite_newimg (l : Bool) (v : Word64) (s : State) : (landMsrWrite l v s).newimg = s.newimg := by cases l <;> rfl
@[simp] theorem landMsrWrite_seq (l : Bool) (v : Word64) (s : State) : (landMsrWrite l v s).seq = s.seq := by cases l <;> rfl
@[simp] theorem landMsrWrite_tlo (l : Bool) (v : Word64) (s : State) : (landMsrWrite l v s).tlo = s.tlo := by cases l <;> rfl
@[simp] theorem landMsrWrite_mlo (l : Bool) (v : Word64) (s : State) : (landMsrWrite l v s).mlo = s.mlo := by cases l <;> rfl
@[simp] theorem landMsrWrite_mhi (l : Bool) (v : Word64) (s : State) : (landMsrWrite l v s).mhi = s.mhi := by cases l <;> rfl
@[simp] theorem landMsrWrite_pci (l : Bool) (v : Word64) (s : State) : (landMsrWrite l v s).pci = s.pci := by cases l <;> rfl
@[simp] theorem landMsrWrite_stray (l : Bool) (v : Word64) (s : State) : (landMsrWrite l v s).stray = s.stray := by cases l <;> rfl
@[simp] theorem landMsrWrite_trace (l : Bool) (v : Word64) (s : State) : (landMsrWrite l v s).trace = s.trace := by cases l <;> rfl
@[simp] theorem landMsrWrite_program (l : Bool) (v : Word64) (s : State) : (landMsrWrite l v s).program = s.program := by cases l <;> rfl
@[simp] theorem landMsrWrite_rdData (l : Bool) (v : Word64) (s : State) : (landMsrWrite l v s).rdData = s.rdData := by cases l <;> rfl
@[simp] theorem landMsrWrite_turns (l : Bool) (v : Word64) (s : State) : (landMsrWrite l v s).turns = s.turns := by cases l <;> rfl
@[simp] theorem landMsrWrite_draws (l : Bool) (v : Word64) (s : State) : (landMsrWrite l v s).draws = s.draws := by cases l <;> rfl
@[simp] theorem landMsrWrite_drawCtr (l : Bool) (v : Word64) (s : State) : (landMsrWrite l v s).drawCtr = s.drawCtr := by cases l <;> rfl
@[simp] theorem landMsrWrite_cfg (l : Bool) (v : Word64) (s : State) : (landMsrWrite l v s).cfg = s.cfg := by cases l <;> rfl
@[simp] theorem landMsrWrite_commanded (l : Bool) (v : Word64) (s : State) : (landMsrWrite l v s).commanded = s.commanded := by cases l <;> rfl

@[simp] theorem landMemWrite_cmd (l : Bool) (a : Word64) (w : Word32) (s : State) : (landMemWrite l a w s).cmd = s.cmd := by
  unfold landMemWrite; split <;> simp
@[simp] theorem landMemWrite_status (l : Bool) (a : Word64) (w : Word32) (s : State) : (landMemWrite l a w s).status = s.status := by
  unfold landMemWrite; split <;> simp
@[simp] theorem landMemWrite_a (l : Bool) (a : Word64) (w : Word32) (s : State) : (landMemWrite l a w s).a = s.a := by
  unfold landMemWrite; split <;> simp
@[simp] theorem landMemWrite_r (l : Bool) (a : Word64) (w : Word32) (s : State) : (landMemWrite l a w s).r = s.r := by
  unfold landMemWrite; split <;> simp
@[simp] theorem landMemWrite_msrin (l : Bool) (a : Word64) (w : Word32) (s : State) : (landMemWrite l a w s).msrin = s.msrin := by
  unfold landMemWrite; split <;> simp
@[simp] theorem landMemWrite_msrimg (l : Bool) (a : Word64) (w : Word32) (s : State) : (landMemWrite l a w s).msrimg = s.msrimg := by
  unfold landMemWrite; split <;> simp
@[simp] theorem landMemWrite_cfgraw (l : Bool) (a : Word64) (w : Word32) (s : State) : (landMemWrite l a w s).cfgraw = s.cfgraw := by
  unfold landMemWrite; split <;> simp
@[simp] theorem landMemWrite_base (l : Bool) (a : Word64) (w : Word32) (s : State) : (landMemWrite l a w s).base = s.base := by
  unfold landMemWrite; split <;> simp
@[simp] theorem landMemWrite_addr (l : Bool) (a : Word64) (w : Word32) (s : State) : (landMemWrite l a w s).addr = s.addr := by
  unfold landMemWrite; split <;> simp
@[simp] theorem landMemWrite_mmioimg (l : Bool) (a : Word64) (w : Word32) (s : State) : (landMemWrite l a w s).mmioimg = s.mmioimg := by
  unfold landMemWrite; split <;> simp
@[simp] theorem landMemWrite_newimg (l : Bool) (a : Word64) (w : Word32) (s : State) : (landMemWrite l a w s).newimg = s.newimg := by
  unfold landMemWrite; split <;> simp
@[simp] theorem landMemWrite_seq (l : Bool) (a : Word64) (w : Word32) (s : State) : (landMemWrite l a w s).seq = s.seq := by
  unfold landMemWrite; split <;> simp
@[simp] theorem landMemWrite_tlo (l : Bool) (a : Word64) (w : Word32) (s : State) : (landMemWrite l a w s).tlo = s.tlo := by
  unfold landMemWrite; split <;> simp
@[simp] theorem landMemWrite_msr (l : Bool) (a : Word64) (w : Word32) (s : State) : (landMemWrite l a w s).msr = s.msr := by
  unfold landMemWrite; split <;> simp
@[simp] theorem landMemWrite_pci (l : Bool) (a : Word64) (w : Word32) (s : State) : (landMemWrite l a w s).pci = s.pci := by
  unfold landMemWrite; split <;> simp
@[simp] theorem landMemWrite_trace (l : Bool) (a : Word64) (w : Word32) (s : State) : (landMemWrite l a w s).trace = s.trace := by
  unfold landMemWrite; split <;> simp
@[simp] theorem landMemWrite_program (l : Bool) (a : Word64) (w : Word32) (s : State) : (landMemWrite l a w s).program = s.program := by
  unfold landMemWrite; split <;> simp
@[simp] theorem landMemWrite_rdData (l : Bool) (a : Word64) (w : Word32) (s : State) : (landMemWrite l a w s).rdData = s.rdData := by
  unfold landMemWrite; split <;> simp
@[simp] theorem landMemWrite_turns (l : Bool) (a : Word64) (w : Word32) (s : State) : (landMemWrite l a w s).turns = s.turns := by
  unfold landMemWrite; split <;> simp
@[simp] theorem landMemWrite_draws (l : Bool) (a : Word64) (w : Word32) (s : State) : (landMemWrite l a w s).draws = s.draws := by
  unfold landMemWrite; split <;> simp
@[simp] theorem landMemWrite_drawCtr (l : Bool) (a : Word64) (w : Word32) (s : State) : (landMemWrite l a w s).drawCtr = s.drawCtr := by
  unfold landMemWrite; split <;> simp
@[simp] theorem landMemWrite_cfg (l : Bool) (a : Word64) (w : Word32) (s : State) : (landMemWrite l a w s).cfg = s.cfg := by
  unfold landMemWrite; split <;> simp
@[simp] theorem landMemWrite_commanded (l : Bool) (a : Word64) (w : Word32) (s : State) : (landMemWrite l a w s).commanded = s.commanded := by
  unfold landMemWrite; split <;> simp

/-! ### Reset -/

@[simp] theorem resetRegisters_cmd (s : State) : (resetRegisters s).cmd = 0 := rfl
@[simp] theorem resetRegisters_status (s : State) : (resetRegisters s).status = Status.clear := rfl
@[simp] theorem resetRegisters_a (s : State) : (resetRegisters s).a = 0 := rfl
@[simp] theorem resetRegisters_r (s : State) : (resetRegisters s).r = 0 := rfl
@[simp] theorem resetRegisters_msrin (s : State) : (resetRegisters s).msrin = 0 := rfl
@[simp] theorem resetRegisters_msrimg (s : State) : (resetRegisters s).msrimg = 0 := rfl
@[simp] theorem resetRegisters_cfgraw (s : State) : (resetRegisters s).cfgraw = 0 := rfl
@[simp] theorem resetRegisters_base (s : State) : (resetRegisters s).base = 0 := rfl
@[simp] theorem resetRegisters_addr (s : State) : (resetRegisters s).addr = 0 := rfl
@[simp] theorem resetRegisters_mmioimg (s : State) : (resetRegisters s).mmioimg = 0 := rfl
@[simp] theorem resetRegisters_newimg (s : State) : (resetRegisters s).newimg = 0 := rfl
@[simp] theorem resetRegisters_seq (s : State) : (resetRegisters s).seq = .idle := rfl
@[simp] theorem resetRegisters_tlo (s : State) : (resetRegisters s).tlo = 0 := rfl
@[simp] theorem resetRegisters_trace (s : State) : (resetRegisters s).trace = [] := rfl
@[simp] theorem resetRegisters_msr (s : State) : (resetRegisters s).msr = s.msr := rfl
@[simp] theorem resetRegisters_mlo (s : State) : (resetRegisters s).mlo = s.mlo := rfl
@[simp] theorem resetRegisters_mhi (s : State) : (resetRegisters s).mhi = s.mhi := rfl
@[simp] theorem resetRegisters_pci (s : State) : (resetRegisters s).pci = s.pci := rfl
@[simp] theorem resetRegisters_stray (s : State) : (resetRegisters s).stray = s.stray := rfl
@[simp] theorem resetRegisters_program (s : State) : (resetRegisters s).program = s.program := rfl
@[simp] theorem resetRegisters_rdData (s : State) : (resetRegisters s).rdData = s.rdData := rfl
@[simp] theorem resetRegisters_turns (s : State) : (resetRegisters s).turns = s.turns := rfl
@[simp] theorem resetRegisters_draws (s : State) : (resetRegisters s).draws = s.draws := rfl
@[simp] theorem resetRegisters_drawCtr (s : State) : (resetRegisters s).drawCtr = s.drawCtr := rfl
@[simp] theorem resetRegisters_cfg (s : State) : (resetRegisters s).cfg = s.cfg := rfl
@[simp] theorem resetRegisters_commanded (s : State) : (resetRegisters s).commanded = s.commanded := rfl

/-! ### The host and the schedule -/

@[simp] theorem hostRead_rdData (idx : BitVec 4) (s : State) : (hostRead idx s).rdData = hostReadValue idx s := rfl
@[simp] theorem hostRead_cmd (idx : BitVec 4) (s : State) : (hostRead idx s).cmd = s.cmd := rfl
@[simp] theorem hostRead_status (idx : BitVec 4) (s : State) : (hostRead idx s).status = s.status := rfl
@[simp] theorem hostRead_a (idx : BitVec 4) (s : State) : (hostRead idx s).a = s.a := rfl
@[simp] theorem hostRead_r (idx : BitVec 4) (s : State) : (hostRead idx s).r = s.r := rfl
@[simp] theorem hostRead_msrin (idx : BitVec 4) (s : State) : (hostRead idx s).msrin = s.msrin := rfl
@[simp] theorem hostRead_msrimg (idx : BitVec 4) (s : State) : (hostRead idx s).msrimg = s.msrimg := rfl
@[simp] theorem hostRead_cfgraw (idx : BitVec 4) (s : State) : (hostRead idx s).cfgraw = s.cfgraw := rfl
@[simp] theorem hostRead_base (idx : BitVec 4) (s : State) : (hostRead idx s).base = s.base := rfl
@[simp] theorem hostRead_addr (idx : BitVec 4) (s : State) : (hostRead idx s).addr = s.addr := rfl
@[simp] theorem hostRead_mmioimg (idx : BitVec 4) (s : State) : (hostRead idx s).mmioimg = s.mmioimg := rfl
@[simp] theorem hostRead_newimg (idx : BitVec 4) (s : State) : (hostRead idx s).newimg = s.newimg := rfl
@[simp] theorem hostRead_seq (idx : BitVec 4) (s : State) : (hostRead idx s).seq = s.seq := rfl
@[simp] theorem hostRead_tlo (idx : BitVec 4) (s : State) : (hostRead idx s).tlo = s.tlo := rfl
@[simp] theorem hostRead_msr (idx : BitVec 4) (s : State) : (hostRead idx s).msr = s.msr := rfl
@[simp] theorem hostRead_mlo (idx : BitVec 4) (s : State) : (hostRead idx s).mlo = s.mlo := rfl
@[simp] theorem hostRead_mhi (idx : BitVec 4) (s : State) : (hostRead idx s).mhi = s.mhi := rfl
@[simp] theorem hostRead_pci (idx : BitVec 4) (s : State) : (hostRead idx s).pci = s.pci := rfl
@[simp] theorem hostRead_stray (idx : BitVec 4) (s : State) : (hostRead idx s).stray = s.stray := rfl
@[simp] theorem hostRead_trace (idx : BitVec 4) (s : State) : (hostRead idx s).trace = s.trace := rfl
@[simp] theorem hostRead_program (idx : BitVec 4) (s : State) : (hostRead idx s).program = s.program := rfl
@[simp] theorem hostRead_turns (idx : BitVec 4) (s : State) : (hostRead idx s).turns = s.turns := rfl
@[simp] theorem hostRead_draws (idx : BitVec 4) (s : State) : (hostRead idx s).draws = s.draws := rfl
@[simp] theorem hostRead_drawCtr (idx : BitVec 4) (s : State) : (hostRead idx s).drawCtr = s.drawCtr := rfl
@[simp] theorem hostRead_cfg (idx : BitVec 4) (s : State) : (hostRead idx s).cfg = s.cfg := rfl
@[simp] theorem hostRead_commanded (idx : BitVec 4) (s : State) : (hostRead idx s).commanded = s.commanded := rfl

@[simp] theorem dropTurn_turns (s : State) : (dropTurn s).turns = s.turns.tail := rfl
@[simp] theorem dropTurn_cmd (s : State) : (dropTurn s).cmd = s.cmd := rfl
@[simp] theorem dropTurn_status (s : State) : (dropTurn s).status = s.status := rfl
@[simp] theorem dropTurn_a (s : State) : (dropTurn s).a = s.a := rfl
@[simp] theorem dropTurn_r (s : State) : (dropTurn s).r = s.r := rfl
@[simp] theorem dropTurn_msrin (s : State) : (dropTurn s).msrin = s.msrin := rfl
@[simp] theorem dropTurn_msrimg (s : State) : (dropTurn s).msrimg = s.msrimg := rfl
@[simp] theorem dropTurn_cfgraw (s : State) : (dropTurn s).cfgraw = s.cfgraw := rfl
@[simp] theorem dropTurn_base (s : State) : (dropTurn s).base = s.base := rfl
@[simp] theorem dropTurn_addr (s : State) : (dropTurn s).addr = s.addr := rfl
@[simp] theorem dropTurn_mmioimg (s : State) : (dropTurn s).mmioimg = s.mmioimg := rfl
@[simp] theorem dropTurn_newimg (s : State) : (dropTurn s).newimg = s.newimg := rfl
@[simp] theorem dropTurn_seq (s : State) : (dropTurn s).seq = s.seq := rfl
@[simp] theorem dropTurn_tlo (s : State) : (dropTurn s).tlo = s.tlo := rfl
@[simp] theorem dropTurn_msr (s : State) : (dropTurn s).msr = s.msr := rfl
@[simp] theorem dropTurn_mlo (s : State) : (dropTurn s).mlo = s.mlo := rfl
@[simp] theorem dropTurn_mhi (s : State) : (dropTurn s).mhi = s.mhi := rfl
@[simp] theorem dropTurn_pci (s : State) : (dropTurn s).pci = s.pci := rfl
@[simp] theorem dropTurn_stray (s : State) : (dropTurn s).stray = s.stray := rfl
@[simp] theorem dropTurn_trace (s : State) : (dropTurn s).trace = s.trace := rfl
@[simp] theorem dropTurn_program (s : State) : (dropTurn s).program = s.program := rfl
@[simp] theorem dropTurn_rdData (s : State) : (dropTurn s).rdData = s.rdData := rfl
@[simp] theorem dropTurn_draws (s : State) : (dropTurn s).draws = s.draws := rfl
@[simp] theorem dropTurn_drawCtr (s : State) : (dropTurn s).drawCtr = s.drawCtr := rfl
@[simp] theorem dropTurn_cfg (s : State) : (dropTurn s).cfg = s.cfg := rfl
@[simp] theorem dropTurn_commanded (s : State) : (dropTurn s).commanded = s.commanded := rfl

end Sys2Proof.Machine
end

