-- ==== Sys2Proof/Laws/Ops.lean ====
section
/-! SUPPORT. What each shared operation can do, said once: the draws, the device write, the five bus primitives by the
device's answer, reset and the other writers. -/

namespace Sys2Proof.Machine

/-! ### Words -/

theorem reqMask_eq : reqMask = 0x0000800000008000 := by decide

theorem setLock_zero : setLock 0x00000000 = 0x80000000 := by decide

@[simp] theorem lo32_zext64 (w : Word32) : lo32 (zext64 w) = w := by
  apply BitVec.eq_of_toNat_eq
  simp [lo32, zext64]
  omega

@[simp] theorem lo32_joinWords (hi lo : Word32) : lo32 (joinWords hi lo) = lo := by
  ext j hj
  have h := BitVec.getLsbD_append (x := hi) (y := lo) (i := j)
  simpa [lo32, joinWords, hj] using h

@[simp] theorem hi32_joinWords (hi lo : Word32) : hi32 (joinWords hi lo) = hi := by
  ext j hj
  have h := BitVec.getLsbD_append (x := hi) (y := lo) (i := 32 + j)
  simpa [hi32, joinWords, hj] using h

theorem lockBit_eq (w : Word32) : lockBit w = w.getLsbD 31 := by
  simp [lockBit, isFieldEnabled, zext64]

theorem mirrorPl1Enabled_eq (w : Word32) : mirrorPl1Enabled w = w.getLsbD 15 := by
  simp [mirrorPl1Enabled, isFieldEnabled, zext64]

theorem mirrorPl2Enabled_eq (w : Word32) : mirrorPl2Enabled w = w.getLsbD 15 := by
  simp [mirrorPl2Enabled, isFieldEnabled, zext64]

theorem baseEnabled_eq (d : Word32) : baseEnabled d = d.getLsbD 0 := by
  simp [baseEnabled, isFieldEnabled, zext64]

@[simp] theorem lockBit_setLock (w : Word32) : lockBit (setLock w) = true := by
  simp [lockBit_eq, setLock]

/-- The write path's HIGH word always has LOCK set (44_mmio_reconcile.md R165). -/
@[simp] theorem lockBit_writeImage (p : Policy) (m : Word64) : lockBit (hi32 (writeImage p m)) = true := by
  cases p <;> simp [writeImage]

/-! ### Views of the state -/

theorem busy_iff (s : State) : s.busy = true ↔ s.seq ≠ .idle := by simp [State.busy]

theorem not_busy_iff (s : State) : s.busy = false ↔ s.seq = .idle := by simp [State.busy]

/-- The mirror's HIGH word is at another address than its LOW word, also where the addition wraps. -/
@[simp] theorem highWordOffset_ne_zero : ¬ highWordOffset = 0#64 := by decide

/-- A LOCKED state, seen through the mirror's HIGH word. -/
theorem locked_eq (s : State) : s.locked = s.mhi.getLsbD 31 := lockBit_eq s.mhi

/-- The mirror's answers depend on its two words and the configuration alone. -/
theorem mirrorWord_congr {s t : State} (hlo : t.mlo = s.mlo) (hhi : t.mhi = s.mhi) (hc : t.cfg = s.cfg)
    (addr : Word64) : t.mirrorWord addr = s.mirrorWord addr := by
  simp [State.mirrorWord, hlo, hhi, hc]

@[simp] theorem mirrorWord_low (s : State) : s.mirrorWord s.cfg.mirrorPa = some s.mlo := by
  simp [State.mirrorWord]

@[simp] theorem mirrorWord_high (s : State) : s.mirrorWord (s.cfg.mirrorPa + highWordOffset) = some s.mhi := by
  simp [State.mirrorWord]

theorem mirrorWord_none_iff (s : State) (addr : Word64) :
    s.mirrorWord addr = none ↔ s.hitsMirror addr = false := by
  unfold State.mirrorWord State.hitsMirror
  split
  · simp [*]
  · split <;> simp [*]

/-! ### Draws -/

theorem nextDraw_cons {s : State} {d : Config.Draw} {ds : List Config.Draw} (h : s.draws = d :: ds) :
    nextDraw s = d := by simp [nextDraw, h]

theorem nextDraw_congr {s t : State} (hd : t.draws = s.draws) (hc : t.drawCtr = s.drawCtr) :
    nextDraw t = nextDraw s := by simp [nextDraw, hd, hc]

/-! ### The device write -/

/-- Everything a performed write can do: a mirror word while UNLOCKED, nothing while LOCKED, a stray write elsewhere
(20_memory.md R57, R58, R61). -/
theorem performMemWrite_cases (addr : Word64) (w : Word32) (s : State) :
    (addr = s.cfg.mirrorPa ∧ s.locked = false ∧ performMemWrite addr w s = { s with mlo := w }) ∨
    (addr = s.cfg.mirrorPa + highWordOffset ∧ s.locked = false ∧ performMemWrite addr w s = { s with mhi := w }) ∨
    (s.hitsMirror addr = true ∧ s.locked = true ∧ performMemWrite addr w s = s) ∨
    (s.hitsMirror addr = false ∧ performMemWrite addr w s = { s with stray := s.stray ++ [(addr, w)] }) := by
  unfold performMemWrite State.hitsMirror
  by_cases h₁ : addr = s.cfg.mirrorPa
  · cases hl : s.locked <;> simp [h₁]
  · by_cases h₂ : addr = s.cfg.mirrorPa + highWordOffset
    · cases hl : s.locked <;> simp [h₂]
    · simp [h₁, h₂]

theorem performMemWrite_low (w : Word32) (s : State) (h : s.locked = false) :
    performMemWrite s.cfg.mirrorPa w s = { s with mlo := w } := by
  simp [performMemWrite, h]

theorem performMemWrite_high (w : Word32) (s : State) (h : s.locked = false) :
    performMemWrite (s.cfg.mirrorPa + highWordOffset) w s = { s with mhi := w } := by
  simp [performMemWrite, h]

/-- A LOCKED mirror keeps both words whatever is written where (20_memory.md R57, R61). -/
theorem performMemWrite_locked (addr : Word64) (w : Word32) (s : State) (h : s.locked = true) :
    (performMemWrite addr w s).mlo = s.mlo ∧ (performMemWrite addr w s).mhi = s.mhi := by
  obtain ⟨_, hl, _⟩ | ⟨_, hl, _⟩ | ⟨_, _, e⟩ | ⟨_, e⟩ := performMemWrite_cases addr w s
  · simp [h] at hl
  · simp [h] at hl
  · simp [e]
  · simp [e]

/-- A write leaves every other address of the mirror as it was. -/
theorem performMemWrite_mirrorWord_other (addr other : Word64) (w : Word32) (s : State) (h : other ≠ addr) :
    (performMemWrite addr w s).mirrorWord other = s.mirrorWord other := by
  obtain ⟨ha, _, e⟩ | ⟨ha, _, e⟩ | ⟨_, _, e⟩ | ⟨_, e⟩ := performMemWrite_cases addr w s
  · subst ha; simp [e, State.mirrorWord, h]
  · subst ha; simp [e, State.mirrorWord, h]
  · rw [e]
  · rw [e]; rfl

/-- A write at the mirror: the word written while UNLOCKED, the old one while LOCKED; no stray write. -/
theorem performMemWrite_mirrorWord_same (addr : Word64) (w old : Word32) (s : State)
    (h : s.mirrorWord addr = some old) :
    (performMemWrite addr w s).stray = s.stray ∧
      (performMemWrite addr w s).mirrorWord addr = some (if s.locked then old else w) := by
  obtain ⟨ha, hl, e⟩ | ⟨ha, hl, e⟩ | ⟨_, hl, e⟩ | ⟨hm, _⟩ := performMemWrite_cases addr w s
  · rw [e, hl]; subst ha; simp [State.mirrorWord]
  · rw [e, hl]; subst ha; simp [State.mirrorWord]
  · rw [e, hl]; simp [h]
  · simp [(mirrorWord_none_iff s addr).mpr hm] at h

/-- A write that misses the mirror is recorded and changes no device word (20_memory.md R58). -/
theorem performMemWrite_stray (addr : Word64) (w : Word32) (s : State) (h : s.mirrorWord addr = none) :
    performMemWrite addr w s = { s with stray := s.stray ++ [(addr, w)] } := by
  have hm := (mirrorWord_none_iff s addr).mp h
  obtain ⟨ha, _⟩ | ⟨ha, _⟩ | ⟨hh, _⟩ | ⟨_, e⟩ := performMemWrite_cases addr w s
  · subst ha; simp at h
  · subst ha; simp at h
  · simp [hm] at hh
  · exact e

/-- A memory write that erred either was performed or changed nothing; it changed nothing only at the mirror. -/
theorem landMemWrite_cases (landed : Bool) (addr : Word64) (w : Word32) (s : State) :
    ((landed = true ∨ s.hitsMirror addr = false) ∧ landMemWrite landed addr w s = performMemWrite addr w s) ∨
    (landed = false ∧ s.hitsMirror addr = true ∧ landMemWrite landed addr w s = s) := by
  unfold landMemWrite
  cases landed <;> cases h : s.hitsMirror addr <;> simp

/-- Everything another agent's turn can do to the MSR and the mirror: its write where it may write, nothing where it may
not (20_memory.md R62, R70). -/
theorem otherWrite_cases (v : Word64) (high : Bool) (w : Word32) (s : State) :
    (extMsrWrite v s = if s.cfg.extWriters = true then performMsrWrite v s else s) ∧
    (extMirrorWrite high w s = if s.cfg.extWriters = true then performMirrorWrite high w s else s) ∧
    (firmwareMsrWrite v s =
      if s.commanded = false ∧ s.busy = false then performMsrWrite v s else s) ∧
    (firmwareMirrorWrite high w s =
      if s.commanded = false ∧ s.busy = false then performMirrorWrite high w s else s) := by
  unfold extMsrWrite extMirrorWrite firmwareMsrWrite firmwareMirrorWrite State.extMayWrite State.firmwareMayWrite
  exact ⟨rfl, rfl, by simp, by simp⟩

/-- LOCK is a view of the mirror's HIGH word alone. -/
theorem locked_congr {s t : State} (h : t.mhi = s.mhi) : t.locked = s.locked := by simp [State.locked, h]

/-- A LOCKED mirror keeps both words also where the write erred (20_memory.md R61). -/
theorem landMemWrite_locked (landed : Bool) (addr : Word64) (w : Word32) (s : State) (h : s.locked = true) :
    (landMemWrite landed addr w s).mlo = s.mlo ∧ (landMemWrite landed addr w s).mhi = s.mhi := by
  obtain ⟨_, e⟩ | ⟨_, _, e⟩ := landMemWrite_cases landed addr w s <;> rw [e]
  · exact performMemWrite_locked _ _ _ h
  · exact ⟨rfl, rfl⟩

/-- Everything the write a reset abandons can do: the write SEQ names, or nothing (70_reset_and_hazards.md R240). -/
theorem landOutstandingWrite_cases (s : State) :
    (s.seq = .msrWr ∧ landOutstandingWrite s = performMsrWrite (orMask s.msrin reqMask) s) ∨
    (s.seq = .mmioWrLo ∧ landOutstandingWrite s = performMemWrite s.addr (lo32 s.newimg) s) ∨
    (s.seq = .mmioWrHi ∧ landOutstandingWrite s = performMemWrite s.highAddr (hi32 s.newimg) s) ∨
    ((s.seq ≠ .msrWr ∧ s.seq ≠ .mmioWrLo ∧ s.seq ≠ .mmioWrHi) ∧ landOutstandingWrite s = s) := by
  cases hq : s.seq <;> simp [landOutstandingWrite, hq]

/-- What the write a reset abandons leaves unchanged. -/
theorem landOutstandingWrite_frame (s : State) :
    (landOutstandingWrite s).turns = s.turns ∧ (landOutstandingWrite s).pci = s.pci ∧
      (landOutstandingWrite s).cfg = s.cfg ∧ (landOutstandingWrite s).program = s.program ∧
      (landOutstandingWrite s).rdData = s.rdData := by
  obtain ⟨_, e⟩ | ⟨_, e⟩ | ⟨_, e⟩ | ⟨_, e⟩ := landOutstandingWrite_cases s <;> rw [e] <;> simp

/-! ### The bus primitives, by the device's answer -/

theorem msrRead_ok {s : State} {any : Word32} (q : Seq) (h : nextDraw s = .ok any) :
    msrRead q s = .ok s.msr (record q (.msrRead s.cfg.msrIndex) (.value64 s.msr) (dropDraw s)) := by
  simp [msrRead, h]

theorem msrRead_err {s : State} {landed : Bool} (q : Seq) (h : nextDraw s = .err landed) :
    msrRead q s = .err (record q (.msrRead s.cfg.msrIndex) .err (dropDraw s)) := by
  simp [msrRead, h]

theorem msrRead_noAnswer {s : State} (q : Seq) (h : nextDraw s = .noAnswer) :
    msrRead q s = .waiting (dropDraw s) := by
  simp [msrRead, h]

theorem msrWrite_ok {s : State} {any : Word32} (q : Seq) (v : Word64) (h : nextDraw s = .ok any) :
    msrWrite q v s = .ok () (record q (.msrWrite s.cfg.msrIndex v) .ok (performMsrWrite v (dropDraw s))) := by
  simp [msrWrite, h]

theorem msrWrite_err {s : State} {landed : Bool} (q : Seq) (v : Word64) (h : nextDraw s = .err landed) :
    msrWrite q v s = .err (record q (.msrWrite s.cfg.msrIndex v) .err
      (landMsrWrite landed v (dropDraw s))) := by
  simp [msrWrite, h]

theorem msrWrite_noAnswer {s : State} (q : Seq) (v : Word64) (h : nextDraw s = .noAnswer) :
    msrWrite q v s = .waiting (dropDraw s) := by
  simp [msrWrite, h]

theorem memRead_ok {s : State} {any : Word32} (q : Seq) (addr : Word64) (h : nextDraw s = .ok any) :
    memRead q addr s = .ok (memReadValue addr any s)
      (record q (.memRead addr) (.value32 (memReadValue addr any s)) (dropDraw s)) := by
  simp [memRead, h]

theorem memRead_err {s : State} {landed : Bool} (q : Seq) (addr : Word64) (h : nextDraw s = .err landed) :
    memRead q addr s = .err (record q (.memRead addr) .err (dropDraw s)) := by
  simp [memRead, h]

theorem memRead_noAnswer {s : State} (q : Seq) (addr : Word64) (h : nextDraw s = .noAnswer) :
    memRead q addr s = .waiting (dropDraw s) := by
  simp [memRead, h]

theorem memWrite_ok {s : State} {any : Word32} (q : Seq) (addr : Word64) (w : Word32) (h : nextDraw s = .ok any) :
    memWrite q addr w s = .ok () (record q (.memWrite addr w) .ok (performMemWrite addr w (dropDraw s))) := by
  simp [memWrite, h]

theorem memWrite_err {s : State} {landed : Bool} (q : Seq) (addr : Word64) (w : Word32)
    (h : nextDraw s = .err landed) :
    memWrite q addr w s = .err (record q (.memWrite addr w) .err
      (landMemWrite landed addr w (dropDraw s))) := by
  simp [memWrite, h]

theorem memWrite_noAnswer {s : State} (q : Seq) (addr : Word64) (w : Word32) (h : nextDraw s = .noAnswer) :
    memWrite q addr w s = .waiting (dropDraw s) := by
  simp [memWrite, h]

theorem pciRead_ok {s : State} {any : Word32} (q : Seq) (h : nextDraw s = .ok any) :
    pciRead q s = .ok s.pci (record q (.pciRead s.cfg.pciBus s.cfg.pciDev s.cfg.pciFn s.cfg.pciOff)
      (.value32 s.pci) (dropDraw s)) := by
  simp [pciRead, h]

theorem pciRead_err {s : State} {landed : Bool} (q : Seq) (h : nextDraw s = .err landed) :
    pciRead q s = .err (record q (.pciRead s.cfg.pciBus s.cfg.pciDev s.cfg.pciFn s.cfg.pciOff) .err
      (dropDraw s)) := by
  simp [pciRead, h]

theorem pciRead_noAnswer {s : State} (q : Seq) (h : nextDraw s = .noAnswer) :
    pciRead q s = .waiting (dropDraw s) := by
  simp [pciRead, h]

end Sys2Proof.Machine
end

