-- ==== Sys2Proof/Laws/Exec.lean ====
section
/-! SUPPORT. What a command's meaning can do, said once: one case for each way a stage ends, with the state after it
written in the named operations, so that every invariant is a case analysis over this list. -/

namespace Sys2Proof.Machine

/-- What `exec i` does when it answers a next state. -/
inductive ExecCase (i : Instr) (s t : State) : Prop where
  /-- TESTF or WITHF completes at acceptance. -/
  | codec (hq : s.seq = .idle) (hi : stagesOf i = []) (r : Word64)
      (ht : t = complete { accept (encode i) s with r := r })
  /-- A reconcile command is accepted, its first stage named. -/
  | start (hq : s.seq = .idle) (first : Seq) (hi : (stagesOf i).head? = some first)
      (ht : t = goto first (accept (encode i) s))
  /-- The device has not answered. -/
  | waiting (hq : s.seq ∈ stagesOf i) (hd : nextDraw s = .noAnswer) (ht : t = dropDraw s)
  /-- A read erred. -/
  | readErr (landed : Bool) (req : Request) (hi : s.seq ∈ stagesOf i)
      (hq : s.seq = .msrRd ∧ req = .msrRead s.cfg.msrIndex ∨
        s.seq = .pciRd ∧ req = .pciRead s.cfg.pciBus s.cfg.pciDev s.cfg.pciFn s.cfg.pciOff ∨
        s.seq = .mmioRdLo ∧ req = .memRead s.addr ∨ s.seq = .mmioRdHi ∧ req = .memRead s.highAddr)
      (hd : nextDraw s = .err landed)
      (ht : t = raiseAccess s.seq (record s.seq req .err (dropDraw s)))
  /-- The MSR read returned a value with both enable bits. -/
  | msrEnabled (any : Word32) (hq : s.seq = .msrRd) (hi : i.hasMsrPart) (hd : nextDraw s = .ok any)
      (hv : allSet s.msr reqMask = true)
      (ht : t = afterPart i .pciRd (setMsrReport .alreadyEnabled
        { record .msrRd (.msrRead s.cfg.msrIndex) (.value64 s.msr) (dropDraw s) with
          msrin := s.msr, msrimg := s.msr }))
  /-- The MSR read returned a value without both enable bits. -/
  | msrToWrite (any : Word32) (hq : s.seq = .msrRd) (hi : i.hasMsrPart) (hd : nextDraw s = .ok any)
      (hv : allSet s.msr reqMask = false)
      (ht : t = goto .msrWr
        { record .msrRd (.msrRead s.cfg.msrIndex) (.value64 s.msr) (dropDraw s) with msrin := s.msr })
  /-- The MSR write returned `ok`. -/
  | msrWritten (any : Word32) (hq : s.seq = .msrWr) (hi : i.hasMsrPart) (hd : nextDraw s = .ok any)
      (ht : t = afterPart i .pciRd (setMsrReport .written
        { record .msrWr (.msrWrite s.cfg.msrIndex (orMask s.msrin reqMask)) .ok
            (performMsrWrite (orMask s.msrin reqMask) (dropDraw s)) with msrimg := orMask s.msrin reqMask }))
  /-- The MSR write erred. -/
  | msrWriteErr (landed : Bool) (hq : s.seq = .msrWr) (hi : i.hasMsrPart) (hd : nextDraw s = .err landed)
      (ht : t = raiseAccess .msrWr (record .msrWr (.msrWrite s.cfg.msrIndex (orMask s.msrin reqMask)) .err
        (landMsrWrite landed (orMask s.msrin reqMask) (dropDraw s))))
  /-- The base register is enabled. -/
  | resolved (any : Word32) (hq : s.seq = .pciRd) (hi : i.hasPciPart) (hd : nextDraw s = .ok any)
      (hv : baseEnabled s.pci = true)
      (ht : t = afterPart i .mmioRdLo (setMchOk
        { record .pciRd (.pciRead s.cfg.pciBus s.cfg.pciDev s.cfg.pciFn s.cfg.pciOff) (.value32 s.pci) (dropDraw s) with
          cfgraw := s.pci, base := baseOf s.pci, addr := baseOf s.pci + s.cfg.mmioOffset }))
  /-- The base register is disabled. -/
  | disabled (any : Word32) (hq : s.seq = .pciRd) (hi : i.hasPciPart) (hd : nextDraw s = .ok any)
      (hv : baseEnabled s.pci = false)
      (ht : t = raiseBaseDisabled
        { record .pciRd (.pciRead s.cfg.pciBus s.cfg.pciDev s.cfg.pciFn s.cfg.pciOff) (.value32 s.pci) (dropDraw s) with
          cfgraw := s.pci })
  /-- The LOW word has been read. -/
  | lowRead (any : Word32) (p : Policy) (hq : s.seq = .mmioRdLo) (hi : i.hasMmioPart p) (hd : nextDraw s = .ok any)
      (ht : t = goto .mmioRdHi
        { record .mmioRdLo (.memRead s.addr) (.value32 (memReadValue s.addr any s)) (dropDraw s) with
          tlo := memReadValue s.addr any s })
  /-- The HIGH word has been read, LOCK set. -/
  | foundLocked (any : Word32) (p : Policy) (hq : s.seq = .mmioRdHi) (hi : i.hasMmioPart p)
      (hd : nextDraw s = .ok any) (hv : lockBit (memReadValue s.highAddr any s) = true)
      (ht : t = lockedOutcome p s.tlo (memReadValue s.highAddr any s)
        { record .mmioRdHi (.memRead s.highAddr) (.value32 (memReadValue s.highAddr any s)) (dropDraw s) with
          mmioimg := joinWords (memReadValue s.highAddr any s) s.tlo })
  /-- The HIGH word has been read, LOCK clear. -/
  | foundUnlocked (any : Word32) (p : Policy) (hq : s.seq = .mmioRdHi) (hi : i.hasMmioPart p)
      (hd : nextDraw s = .ok any) (hv : lockBit (memReadValue s.highAddr any s) = false)
      (ht : t = unlockedPrepare p
        { record .mmioRdHi (.memRead s.highAddr) (.value32 (memReadValue s.highAddr any s)) (dropDraw s) with
          mmioimg := joinWords (memReadValue s.highAddr any s) s.tlo })
  /-- The LOW write returned `ok`. -/
  | lowWritten (any : Word32) (p : Policy) (hq : s.seq = .mmioWrLo) (hi : i.hasMmioPart p)
      (hd : nextDraw s = .ok any)
      (ht : t = goto .mmioWrHi (record .mmioWrLo (.memWrite s.addr (lo32 s.newimg)) .ok
        (performMemWrite s.addr (lo32 s.newimg) (dropDraw s))))
  /-- The LOW write erred. -/
  | lowWriteErr (landed : Bool) (p : Policy) (hq : s.seq = .mmioWrLo) (hi : i.hasMmioPart p)
      (hd : nextDraw s = .err landed)
      (ht : t = raiseAccess .mmioWrLo (record .mmioWrLo (.memWrite s.addr (lo32 s.newimg)) .err
        (landMemWrite landed s.addr (lo32 s.newimg) (dropDraw s))))
  /-- The HIGH write returned `ok`. -/
  | highWritten (any : Word32) (p : Policy) (hq : s.seq = .mmioWrHi) (hi : i.hasMmioPart p)
      (hd : nextDraw s = .ok any)
      (ht : t = complete (setMmioReport .writtenLocked (record .mmioWrHi (.memWrite s.highAddr (hi32 s.newimg)) .ok
        (performMemWrite s.highAddr (hi32 s.newimg) (dropDraw s)))))
  /-- The HIGH write erred. -/
  | highWriteErr (landed : Bool) (p : Policy) (hq : s.seq = .mmioWrHi) (hi : i.hasMmioPart p)
      (hd : nextDraw s = .err landed)
      (ht : t = raiseAccess .mmioWrHi (record .mmioWrHi (.memWrite s.highAddr (hi32 s.newimg)) .err
        (landMemWrite landed s.highAddr (hi32 s.newimg) (dropDraw s))))

/-- How a part of a command ends when it succeeds. -/
theorem afterPart_cases (i : Instr) (q : Seq) (s : State) :
    (afterPart i q s = complete s ∧ ∀ p, i ≠ .run p) ∨ (afterPart i q s = goto q s ∧ ∃ p, i = .run p) := by
  cases i <;> simp [afterPart, complete, goto]

/-- The three reports of a LOCKED mirror (44_mmio_reconcile.md R166 to R168). -/
theorem lockedOutcome_cases (p : Policy) (lo hi : Word32) (s : State) :
    (anyEnabled lo hi = true ∧ lockedOutcome p lo hi s = complete (warn .lockedWithLimitsActive s)) ∨
    (anyEnabled lo hi = false ∧ p = .disable ∧ lockedOutcome p lo hi s = complete (setMmioReport .alreadyReconciled s)) ∨
    (anyEnabled lo hi = false ∧ p = .mirror ∧ lockedOutcome p lo hi s = complete (warn .lockedCannotMirror s)) := by
  unfold lockedOutcome
  cases anyEnabled lo hi <;> cases p <;> simp

/-! ### The stages, one by one -/

theorem afterPart_msrrc (q : Seq) (s : State) : afterPart .msrrc q s = complete s := rfl

theorem afterPart_mchrs (q : Seq) (s : State) : afterPart .mchrs q s = complete s := rfl

theorem afterPart_run (p : Policy) (q : Seq) (s : State) : afterPart (.run p) q s = goto q s := rfl

theorem stageMsrRd_case {i : Instr} {s : State} (hi : i.hasMsrPart) (hq : s.seq = .msrRd)
    (hmem : s.seq ∈ stagesOf i) : ExecCase i s (stageMsrRd (afterPart i .pciRd) s) := by
  cases hd : nextDraw s with
  | noAnswer => exact .waiting hmem hd (by simp [stageMsrRd, msrRead_noAnswer _ hd])
  | err l => exact .readErr l _ hmem (.inl ⟨hq, rfl⟩) hd (by simp [stageMsrRd, msrRead_err _ hd, hq])
  | ok a =>
    cases hv : allSet s.msr reqMask with
    | true => exact .msrEnabled a hq hi hd hv (by simp [stageMsrRd, msrRead_ok _ hd, hv])
    | false => exact .msrToWrite a hq hi hd hv (by simp [stageMsrRd, msrRead_ok _ hd, hv])

theorem stageMsrWr_case {i : Instr} {s : State} (hi : i.hasMsrPart) (hq : s.seq = .msrWr)
    (hmem : s.seq ∈ stagesOf i) : ExecCase i s (stageMsrWr (afterPart i .pciRd) s) := by
  cases hd : nextDraw s with
  | noAnswer => exact .waiting hmem hd (by simp [stageMsrWr, msrWrite_noAnswer _ _ hd])
  | err l => exact .msrWriteErr l hq hi hd (by simp [stageMsrWr, msrWrite_err _ _ hd])
  | ok a => exact .msrWritten a hq hi hd (by simp [stageMsrWr, msrWrite_ok _ _ hd])

theorem stagePciRd_case {i : Instr} {s : State} (hi : i.hasPciPart) (hq : s.seq = .pciRd)
    (hmem : s.seq ∈ stagesOf i) : ExecCase i s (stagePciRd (afterPart i .mmioRdLo) s) := by
  cases hd : nextDraw s with
  | noAnswer => exact .waiting hmem hd (by simp [stagePciRd, pciRead_noAnswer _ hd])
  | err l => exact .readErr l _ hmem (.inr (.inl ⟨hq, rfl⟩)) hd (by simp [stagePciRd, pciRead_err _ hd, hq])
  | ok a =>
    cases hv : baseEnabled s.pci with
    | true => exact .resolved a hq hi hd hv (by simp [stagePciRd, pciRead_ok _ hd, hv])
    | false => exact .disabled a hq hi hd hv (by simp [stagePciRd, pciRead_ok _ hd, hv])

theorem stageMmioRdLo_case {i : Instr} {p : Policy} {s : State} (hi : i.hasMmioPart p) (hq : s.seq = .mmioRdLo)
    (hmem : s.seq ∈ stagesOf i) : ExecCase i s (stageMmioRdLo s) := by
  cases hd : nextDraw s with
  | noAnswer => exact .waiting hmem hd (by simp [stageMmioRdLo, memRead_noAnswer _ _ hd])
  | err l =>
    exact .readErr l _ hmem (.inr (.inr (.inl ⟨hq, rfl⟩))) hd (by simp [stageMmioRdLo, memRead_err _ _ hd, hq])
  | ok a => exact .lowRead a p hq hi hd (by simp [stageMmioRdLo, memRead_ok _ _ hd])

theorem stageMmioRdHi_case {i : Instr} {p : Policy} {s : State} (hi : i.hasMmioPart p) (hq : s.seq = .mmioRdHi)
    (hmem : s.seq ∈ stagesOf i) : ExecCase i s (stageMmioRdHi p s) := by
  cases hd : nextDraw s with
  | noAnswer => exact .waiting hmem hd (by simp [stageMmioRdHi, memRead_noAnswer _ _ hd])
  | err l =>
    exact .readErr l _ hmem (.inr (.inr (.inr ⟨hq, rfl⟩))) hd (by simp [stageMmioRdHi, memRead_err _ _ hd, hq])
  | ok a =>
    cases hv : lockBit (memReadValue s.highAddr a s) with
    | true => exact .foundLocked a p hq hi hd hv (by simp [stageMmioRdHi, memRead_ok _ _ hd, hv])
    | false => exact .foundUnlocked a p hq hi hd hv (by simp [stageMmioRdHi, memRead_ok _ _ hd, hv])

theorem stageMmioWrLo_case {i : Instr} {p : Policy} {s : State} (hi : i.hasMmioPart p) (hq : s.seq = .mmioWrLo)
    (hmem : s.seq ∈ stagesOf i) : ExecCase i s (stageMmioWrLo s) := by
  cases hd : nextDraw s with
  | noAnswer => exact .waiting hmem hd (by simp [stageMmioWrLo, memWrite_noAnswer _ _ _ hd])
  | err l => exact .lowWriteErr l p hq hi hd (by simp [stageMmioWrLo, memWrite_err _ _ _ hd])
  | ok a => exact .lowWritten a p hq hi hd (by simp [stageMmioWrLo, memWrite_ok _ _ _ hd])

theorem stageMmioWrHi_case {i : Instr} {p : Policy} {s : State} (hi : i.hasMmioPart p) (hq : s.seq = .mmioWrHi)
    (hmem : s.seq ∈ stagesOf i) : ExecCase i s (stageMmioWrHi s) := by
  cases hd : nextDraw s with
  | noAnswer => exact .waiting hmem hd (by simp [stageMmioWrHi, memWrite_noAnswer _ _ _ hd])
  | err l => exact .highWriteErr l p hq hi hd (by simp [stageMmioWrHi, memWrite_err _ _ _ hd])
  | ok a => exact .highWritten a p hq hi hd (by simp [stageMmioWrHi, memWrite_ok _ _ _ hd])

/-- Everything a command's meaning can do when it answers a next state. -/
theorem exec_cases {i : Instr} {s t : State} (h : exec i s = .next t) : ExecCase i s t := by
  cases i with
  | testf b =>
    cases hq : s.seq <;> simp [exec, execTestf, hq] at h
    exact .codec hq rfl _ h.symm
  | withf b x =>
    cases hq : s.seq <;> simp [exec, execWithf, hq] at h
    exact .codec hq rfl _ h.symm
  | msrrc =>
    cases hq : s.seq <;> simp [exec, execMsrrc, hq] at h <;> subst h
    · exact .start hq _ rfl rfl
    · exact stageMsrRd_case (.inl rfl) hq (by simp [hq, stagesOf])
    · exact stageMsrWr_case (.inl rfl) hq (by simp [hq, stagesOf])
  | mchrs =>
    cases hq : s.seq <;> simp [exec, execMchrs, hq] at h <;> subst h
    · exact .start hq _ rfl rfl
    · exact stagePciRd_case (.inl rfl) hq (by simp [hq, stagesOf])
  | mmiorc p =>
    cases hq : s.seq <;> simp [exec, execMmiorc, hq] at h <;> subst h
    · exact .start hq _ rfl rfl
    · exact stageMmioRdLo_case (p := p) (.inl rfl) hq (by simp [hq, stagesOf])
    · exact stageMmioRdHi_case (p := p) (.inl rfl) hq (by simp [hq, stagesOf])
    · exact stageMmioWrLo_case (p := p) (.inl rfl) hq (by simp [hq, stagesOf])
    · exact stageMmioWrHi_case (p := p) (.inl rfl) hq (by simp [hq, stagesOf])
  | run p =>
    cases hq : s.seq <;> simp [exec, execRun, hq] at h <;> subst h
    · exact .start hq _ rfl rfl
    · exact stageMsrRd_case (.inr ⟨p, rfl⟩) hq (by simp [hq, stagesOf])
    · exact stageMsrWr_case (.inr ⟨p, rfl⟩) hq (by simp [hq, stagesOf])
    · exact stagePciRd_case (.inr ⟨p, rfl⟩) hq (by simp [hq, stagesOf])
    · exact stageMmioRdLo_case (p := p) (.inr rfl) hq (by simp [hq, stagesOf])
    · exact stageMmioRdHi_case (p := p) (.inr rfl) hq (by simp [hq, stagesOf])
    · exact stageMmioWrLo_case (p := p) (.inr rfl) hq (by simp [hq, stagesOf])
    · exact stageMmioWrHi_case (p := p) (.inr rfl) hq (by simp [hq, stagesOf])

/-- What every command's step leaves unchanged, and where the MSR device changes (20_memory.md R50, R67). -/
theorem exec_frame {i : Instr} {s t : State} (h : exec i s = .next t) :
    t.cfg = s.cfg ∧ t.pci = s.pci ∧ t.a = s.a ∧ t.turns = s.turns ∧ t.program = s.program ∧ t.rdData = s.rdData ∧
    (s.busy = true → t.cmd = s.cmd ∧ t.status.wovr = s.status.wovr ∧ t.commanded = s.commanded) ∧
    (t.msr ≠ s.msr → i.hasMsrPart ∧ s.seq = .msrWr ∧ t.msr = orMask s.msrin reqMask) := by
  have idle : s.seq = .idle → s.busy = true → False := by intro h; simp [State.busy, h]
  cases exec_cases h with
  | codec hq _ _ ht => subst ht; simp; exact fun h => (idle hq h).elim
  | start hq _ _ ht => subst ht; simp; exact fun h => (idle hq h).elim
  | waiting _ _ ht => subst ht; simp
  | readErr _ _ _ _ _ ht => subst ht; simp
  | msrEnabled _ _ _ _ _ ht =>
    subst ht
    obtain ⟨e, _⟩ | ⟨e, _⟩ := afterPart_cases i .pciRd _ <;> rw [e] <;> simp
  | msrToWrite _ _ _ _ _ ht => subst ht; simp
  | msrWritten _ hq hi _ ht =>
    subst ht
    obtain ⟨e, _⟩ | ⟨e, _⟩ := afterPart_cases i .pciRd _ <;> rw [e] <;> simp [hq, hi]
  | msrWriteErr landed hq hi _ ht => subst ht; cases landed <;> simp [hq, hi, landMsrWrite]
  | resolved _ _ _ _ _ ht =>
    subst ht
    obtain ⟨e, _⟩ | ⟨e, _⟩ := afterPart_cases i .mmioRdLo _ <;> rw [e] <;> simp
  | disabled _ _ _ _ _ ht => subst ht; simp
  | lowRead _ _ _ _ _ ht => subst ht; simp
  | foundLocked any p _ _ _ _ ht =>
    subst ht
    obtain ⟨_, e⟩ | ⟨_, _, e⟩ | ⟨_, _, e⟩ := lockedOutcome_cases p s.tlo (memReadValue s.highAddr any s) _ <;>
      rw [e] <;> simp
  | foundUnlocked _ _ _ _ _ _ ht => subst ht; simp [unlockedPrepare]
  | lowWritten _ _ _ _ _ ht => subst ht; simp
  | lowWriteErr _ _ _ _ _ ht => subst ht; simp
  | highWritten _ _ _ _ _ ht => subst ht; simp
  | highWriteErr _ _ _ _ _ ht => subst ht; simp

end Sys2Proof.Machine
end

