-- ==== Sys2Proof/Laws/PerInstr.lean ====
section
/-! SUPPORT. Statements made for every command as syntax, one lemma for each constructor. -/

namespace Sys2Proof.Laws.RowMatch

/-- The mnemonic of a command's row in the opcode map (30_encoding.md R84). -/
def mnemonicOf : Instr → Mnemonic
  | .testf _   => .testf
  | .withf _ _ => .withf
  | .msrrc     => .msrrc
  | .mchrs     => .mchrs
  | .mmiorc _  => .mmiorc
  | .run _     => .run

/-- A well-formed command's word matches its own row of the opcode map (30_encoding.md R84, R88). -/
def Statement (i : Instr) : Prop :=
  i.wellFormed = true → ∃ r ∈ opcodeRows, r.mnemonic = mnemonicOf i ∧ rowMatches r (encode i) = true

/-- Every well-formed bit index, checked one by one: the words of TESTF and of WITHF match their rows. -/
theorem bit_words_match :
    ∀ b : Fin 64, rowMatches ⟨.testf, 0x00000001, 0xFFFFF03F⟩ (encode (.testf b)) = true ∧
      ∀ x : Bool, rowMatches ⟨.withf, 0x00000002, 0xFFFFF01F⟩ (encode (.withf b x)) = true := by decide

theorem testf (b : Nat) : Statement (.testf b) := fun h =>
  ⟨_, by decide, rfl, (bit_words_match ⟨b, by simpa [Instr.wellFormed, Nat.lt_succ_iff] using h⟩).1⟩

theorem withf (b : Nat) (x : Bool) : Statement (.withf b x) := fun h =>
  ⟨_, by decide, rfl, (bit_words_match ⟨b, by simpa [Instr.wellFormed, Nat.lt_succ_iff] using h⟩).2 x⟩

theorem msrrc : Statement .msrrc := fun _ => by decide

theorem mchrs : Statement .mchrs := fun _ => by decide

theorem mmiorc (p : Policy) : Statement (.mmiorc p) := fun _ => by cases p <;> decide

theorem run (p : Policy) : Statement (.run p) := fun _ => by cases p <;> decide

end Sys2Proof.Laws.RowMatch
end

