-- ==== Sys2Proof/Laws/Step.lean ====
section
/-! SUPPORT. What a step can do, said once: one case for each kind of turn, so that every invariant is a case analysis
over this list and no proof unfolds the step again. -/

namespace Sys2Proof.Machine

/-- `s₀` is `s` but for the host's side and the schedule. -/
def Surrounded (s s₀ : State) : Prop :=
  s₀ = { s with program := s₀.program, rdData := s₀.rdData, turns := s₀.turns }

theorem Surrounded.of_parts (s : State) (ps : List HostOp) (d : Word64) (ts : List Turn) :
    Surrounded s { s with program := ps, rdData := d, turns := ts } := rfl

/-- What one step does, by the agent that moved. -/
inductive StepCase (s t : State) : Prop where
  /-- Nothing in RRC or a device changes: an idle turn, a host read, a write without effect. -/
  | quiet (h : Surrounded s t)
  /-- The controller performs a stage of the running command. -/
  | stage (i : Instr) (s₀ : State) (h₀ : Surrounded s s₀) (hturn : nextTurn s = .controller) (hb : s.busy = true)
      (hd : decode s.cmd = .ok i) (ht : exec i s₀ = .next t)
  /-- The host issues a command. -/
  | issue (i : Instr) (w : Word32) (s₀ : State) (h₀ : Surrounded s s₀) (hb : s.busy = false)
      (hd : decode w = .ok i) (ht : exec i s₀ = .next t)
  /-- The host issues a word that is no command. -/
  | illegal (e : DecodeError) (w : Word32) (s₀ : State) (h₀ : Surrounded s s₀) (hb : s.busy = false)
      (hd : decode w = .error e) (ht : t = acceptIllegal w s₀)
  /-- A host write is dropped. -/
  | dropped (s₀ : State) (h₀ : Surrounded s s₀) (hb : s.busy = true) (ht : t = setWovr s₀)
  /-- The host writes A, MSRIMG or ADDR. -/
  | hostData (s₀ : State) (h₀ : Surrounded s s₀) (hb : s.busy = false) (a m d : Word64)
      (ht : t = { s₀ with a := a, msrimg := m, addr := d })
  /-- RRC's reset. -/
  | reset (landed : Bool) (hturn : nextTurn s = .blockReset landed) (ht : t = blockReset landed (dropTurn s))
  /-- Power-on. -/
  | power (landed : Bool) (msr : Word64) (mlo mhi pci : Word32) (hturn : nextTurn s = .powerOn landed msr mlo mhi pci)
      (ht : t = powerOn landed msr mlo mhi pci (dropTurn s))
  /-- The external writer's MSR write. -/
  | extMsr (v : Word64) (hturn : nextTurn s = .extMsrWrite v) (ht : t = extMsrWrite v (dropTurn s))
  /-- The external writer's mirror write. -/
  | extMirror (high : Bool) (w : Word32) (hturn : nextTurn s = .extMirrorWrite high w)
      (ht : t = extMirrorWrite high w (dropTurn s))
  /-- Firmware's MSR write. -/
  | firmwareMsr (v : Word64) (hturn : nextTurn s = .firmwareMsrWrite v) (ht : t = firmwareMsrWrite v (dropTurn s))
  /-- Firmware's mirror write. -/
  | firmwareMirror (high : Bool) (w : Word32) (hturn : nextTurn s = .firmwareMirrorWrite high w)
      (ht : t = firmwareMirrorWrite high w (dropTurn s))
  /-- The platform's change of the PCI dword. -/
  | platform (d : Word32) (hturn : nextTurn s = .platformPci d) (ht : t = platformPci d (dropTurn s))

theorem surrounded_dropTurn (s : State) : Surrounded s (dropTurn s) := rfl

theorem Surrounded.busy_eq {s s₀ : State} (h : Surrounded s s₀) : s₀.busy = s.busy := by rw [h]; rfl

theorem Surrounded.seq_eq {s s₀ : State} (h : Surrounded s s₀) : s₀.seq = s.seq := by rw [h]

/-- What a host write does, from the state in which its turn and operation have been taken off. -/
theorem hostWrite_case {s s₀ t : State} {idx : BitVec 4} {v : Word64} (h₀ : Surrounded s s₀)
    (h : hostWrite idx v s₀ = .next t) : StepCase s t := by
  have hb := h₀.busy_eq
  unfold hostWrite at h
  split at h
  · cases hbusy : s.busy with
    | true =>
      simp only [hb, hbusy, if_true, Host.Outcome.next.injEq] at h
      exact .dropped s₀ h₀ hbusy h.symm
    | false =>
      simp only [hb, hbusy, Bool.false_eq_true, if_false] at h
      unfold issueWord at h
      split at h
      · exact .issue _ _ s₀ h₀ hbusy ‹_› h
      · simp only [Host.Outcome.next.injEq] at h
        exact .illegal _ _ s₀ h₀ hbusy ‹_› h.symm
  iterate 3
    · cases hbusy : s.busy with
      | true =>
        simp only [hb, hbusy, if_true, Host.Outcome.next.injEq] at h
        exact .dropped s₀ h₀ hbusy h.symm
      | false =>
        simp only [hb, hbusy, Bool.false_eq_true, if_false, Host.Outcome.next.injEq] at h
        subst h
        exact .hostData s₀ h₀ hbusy _ _ _ rfl
  all_goals
    simp only [Host.Outcome.next.injEq] at h
    subst h
    exact .quiet h₀

/-- What a host operation does. -/
theorem hostOperation_case {s s₀ t : State} {op : HostOp} (h₀ : Surrounded s s₀)
    (h : hostOperation op s₀ = .next t) : StepCase s t := by
  cases op with
  | wr idx v => exact hostWrite_case h₀ h
  | rd idx =>
    simp only [hostOperation, Host.Outcome.next.injEq] at h
    subst h
    exact .quiet (by unfold Surrounded at *; rw [h₀]; rfl)
  | issue i =>
    unfold hostOperation at h
    exact hostWrite_case h₀ h
  | wait =>
    simp only [hostOperation, Host.Outcome.next.injEq] at h
    subst h
    refine .quiet ?_
    unfold Surrounded at *
    rw [h₀]
    unfold hostPoll
    dsimp only
    split <;> rfl
  | doCmd i =>
    unfold hostOperation at h
    refine hostWrite_case (s₀ := { s₀ with program := .wait :: s₀.program }) ?_ h
    unfold Surrounded at *
    rw [h₀]

/-- Everything a step can do. -/
theorem step_cases {s t : State} (h : step s = .next t) : StepCase s t := by
  have h₀ := surrounded_dropTurn s
  unfold step stepAgents at h
  cases hturn : nextTurn s with
  | controller =>
    simp only [hturn, takeTurn, controllerTurn] at h
    cases hbusy : s.busy with
    | true =>
      simp only [h₀.busy_eq, hbusy, if_true, dropTurn_cmd] at h
      split at h
      · exact .stage _ _ h₀ hturn hbusy ‹_› h
      · cases h
    | false =>
      simp only [h₀.busy_eq, hbusy, Bool.false_eq_true, if_false, Host.Outcome.next.injEq] at h
      subst h
      exact .quiet h₀
  | host =>
    simp only [hturn, takeTurn, hostTurn] at h
    split at h
    · simp only [Host.Outcome.next.injEq] at h
      subst h
      exact .quiet h₀
    · exact hostOperation_case (by unfold Surrounded at *; rw [h₀]) h
  | blockReset landed =>
    simp only [hturn, takeTurn, Host.Outcome.next.injEq] at h
    exact .reset landed hturn h.symm
  | powerOn landed msr mlo mhi pci =>
    simp only [hturn, takeTurn, Host.Outcome.next.injEq] at h
    exact .power landed msr mlo mhi pci hturn h.symm
  | extMsrWrite v =>
    simp only [hturn, takeTurn, Host.Outcome.next.injEq] at h
    exact .extMsr v hturn h.symm
  | extMirrorWrite high w =>
    simp only [hturn, takeTurn, Host.Outcome.next.injEq] at h
    exact .extMirror high w hturn h.symm
  | firmwareMsrWrite v =>
    simp only [hturn, takeTurn, Host.Outcome.next.injEq] at h
    exact .firmwareMsr v hturn h.symm
  | firmwareMirrorWrite high w =>
    simp only [hturn, takeTurn, Host.Outcome.next.injEq] at h
    exact .firmwareMirror high w hturn h.symm
  | platformPci d =>
    simp only [hturn, takeTurn, Host.Outcome.next.injEq] at h
    exact .platform d hturn h.symm

end Sys2Proof.Machine
end

