-- ==== Sys2Proof/Tests/Slice0.lean ====
section
/-! SUPPORT. Tests, with expected results from the vectors of 95_test_vectors.md and the tables of the rules, and for
every obligation that has hypotheses a witness that meets them. -/

namespace Sys2Proof.Tests

open Sys2Proof.Machine

/-! ### The bench (95_test_vectors.md, common premises) -/

/-- The common premises' configuration, with an arbitrary MSR index. -/
def benchCfg : Config.Params where
  msrIndex   := 0x00000123
  pciBus     := 0
  pciDev     := 0
  pciFn      := 0
  pciOff     := 0x048
  mmioOffset := 0x59A0
  mirrorPa   := 0x00000000FED159A0
  extWriters := false

/-- The bench's configuration with an external writer (20_memory.md R70). -/
def withWriters : Config.Params := { benchCfg with extWriters := true }

/-- RRC after reset, with the common premises' devices: M = 0, D = 0xFED1_0001, an unlocked mirror holding 0. -/
def bench : State := { State.reset with cfg := benchCfg, msr := 0, mlo := 0, mhi := 0, pci := 0xFED10001 }

/-- The bench with a command running, about to perform a stage, ADDR at the mirror. -/
def running (word : Word32) (q : Machine.Seq) (ds : List Config.Draw) : State :=
  { bench with cmd := word, seq := q, draws := ds, addr := 0x00000000FED159A0, commanded := true }

/-- The bench in the MMIO part of `RUN DISABLE`, the MSR part and the PCI part done (45_sequence.md R191, R192). -/
def runInMmioPart (q : Machine.Seq) (ds : List Config.Draw) : State :=
  { running 0x00000006 q ds with
    status := { Status.clear with msrRpt := .written, mchOk := true }, newimg := 0x8000000000000000 }

/-- The state after a step that answers one. -/
def after (o : Host.Outcome State Fault Refusal) : State :=
  match o with
  | .next t    => t
  | .fault _   => State.reset
  | .refused _ => State.reset

/-! ### Well-formedness (30_encoding.md R88) -/

theorem test_wellFormed_admits_63 :
    (Instr.testf 63).wellFormed = true ∧ (Instr.withf 63 true).wellFormed = true := by decide

theorem test_wellFormed_refuses_testf_64 : (Instr.testf 64).wellFormed = false := by decide

theorem test_wellFormed_refuses_withf_64 : (Instr.withf 64 false).wellFormed = false := by decide

/-! ### Decoding: words written out from the patterns of 30_encoding.md R84 -/

theorem test_decode_testf : decode 0b00000000000000000000101111000001 = .ok (.testf 47) := by decide

theorem test_decode_withf :
    decode 0b00000000000000000000100000100010 = .ok (.withf 32 true) ∧
    decode 0b00000000000000000000111111000010 = .ok (.withf 63 false) := by decide

theorem test_decode_msrrc : decode 0b00000000000000000000000000000011 = .ok .msrrc := by decide

theorem test_decode_mchrs : decode 0b00000000000000000000000000000100 = .ok .mchrs := by decide

theorem test_decode_mmiorc :
    decode 0b00000000000000000000000000000101 = .ok (.mmiorc .disable) ∧
    decode 0b00000000000000000000000000010101 = .ok (.mmiorc .mirror) := by decide

theorem test_decode_run :
    decode 0b00000000000000000000000000000110 = .ok (.run .disable) ∧
    decode 0b00000000000000000000000000010110 = .ok (.run .mirror) := by decide

/-- The illegal words of V1. -/
theorem test_decode_illegal :
    decode 0x00000000 = .error .unassignedOpcode ∧ decode 0x00000007 = .error .unassignedOpcode ∧
    decode 0x0000000F = .error .unassignedOpcode ∧ decode 0xFFFFFFFF = .error .unassignedOpcode ∧
    decode 0x00001001 = .error .reservedBitsSet ∧ decode 0x01000006 = .error .reservedBitsSet ∧
    decode 0x00000011 = .error .unusedFieldSet ∧ decode 0x00000021 = .error .unusedFieldSet ∧
    decode 0x00000012 = .error .unusedFieldSet ∧ decode 0x00000013 = .error .unusedFieldSet ∧
    decode 0x00000043 = .error .unusedFieldSet ∧ decode 0x00000014 = .error .unusedFieldSet ∧
    decode 0x00000025 = .error .unusedFieldSet ∧ decode 0x00000045 = .error .unusedFieldSet ∧
    decode 0x00000026 = .error .unusedFieldSet := by decide

/-- The words of the syntax table of 30_encoding.md R88. -/
theorem test_encode_words :
    encode (.testf 47) = 0x00000BC1 ∧ encode (.withf 47 true) = 0x00000BE2 ∧ encode (.withf 5 false) = 0x00000142 ∧
    encode .msrrc = 0x00000003 ∧ encode .mchrs = 0x00000004 ∧ encode (.mmiorc .disable) = 0x00000005 ∧
    encode (.mmiorc .mirror) = 0x00000015 ∧ encode (.run .disable) = 0x00000006 ∧
    encode (.run .mirror) = 0x00000016 := by decide

/-! ### The assembler (30_encoding.md R88, R89; V2 and P6) -/

theorem test_assembler_command :
    parseCommand ['W', 'I', 'T', 'H', 'F', ' ', '0', 'x', '2', 'F', ',', ' ', '1', ' ', ';', 'x'] =
      some (.withf 47 true) := by decide

theorem test_assembler_refuses_64 : parseCommand ['T', 'E', 'S', 'T', 'F', ' ', '6', '4'] = none := by decide

theorem test_assembler_program :
    parseProgram [
      ['W', 'R', ' ', 'A', 'D', 'D', 'R', ',', ' ', '0', 'x', 'F', 'E', 'D', '1', '_', '5', '9', 'A', '0'],
      ['D', 'O', ' ', 'M', 'M', 'I', 'O', 'R', 'C', ' ', 'M', 'I', 'R', 'R', 'O', 'R'],
      ['R', 'D', ' ', '1', '0'], ['W', 'A', 'I', 'T']] =
    some [.wr 8 0x00000000FED159A0, .doCmd (.mmiorc .mirror), .rd 10, .wait] := by decide

/-! ### One step of each command (V2 to V6, P2) -/

/-- V2: A = 0x0000_8000_0000_8000, `TESTF 47`. -/
theorem test_testf_47 :
    (after (exec (.testf 47) { bench with a := 0x0000800000008000 })).r = 0x0000000000000001 := by decide

/-- V2: A = 0x0000_0000_8000_0000, `TESTF 32`: the half boundary. -/
theorem test_testf_32 : (after (exec (.testf 32) { bench with a := 0x0000000080000000, r := 5 })).r = 0 := by decide

/-- V2: A = 0, `WITHF 32, 1`: no 32-bit truncation. -/
theorem test_withf_32 : (after (exec (.withf 32 true) bench)).r = 0x0000000100000000 := by decide

/-- V2: A all ones, `WITHF 63, 0`. -/
theorem test_withf_63 :
    (after (exec (.withf 63 false) { bench with a := 0xFFFFFFFFFFFFFFFF })).r = 0x7FFFFFFFFFFFFFFF := by decide

/-- V3, last `ok` row: the write of a value with opaque fields. -/
theorem test_msrrc_write :
    (after (exec .msrrc { running 3 .msrWr [.ok 0] with msrin := 0x004200F0001400C8 })).msr = 0x004280F0001480C8 ∧
    (after (exec .msrrc { running 3 .msrWr [.ok 0] with msrin := 0x004200F0001400C8 })).statusWord = 0x00020002 := by
  decide

/-- V3: the read errs. -/
theorem test_msrrc_read_err : (after (exec .msrrc (running 3 .msrRd [.err true]))).statusWord = 0x00001106 := by decide

/-- V4: D = 0xFFFF_FFFF gives an address above 4 GiB. -/
theorem test_mchrs_above_4_gib :
    (after (exec .mchrs { running 4 .pciRd [.ok 0] with pci := 0xFFFFFFFF })).addr = 0x000000010000599E ∧
    (after (exec .mchrs { running 4 .pciRd [.ok 0] with pci := 0xFFFFFFFF })).base = 0x00000000FFFFFFFE := by decide

/-- V4: D = 0xFED1_0000 is disabled; ADDR keeps its value. -/
theorem test_mchrs_disabled :
    (after (exec .mchrs { running 4 .pciRd [.ok 0] with pci := 0xFED10000 })).statusWord = 0x00003206 ∧
    (after (exec .mchrs { running 4 .pciRd [.ok 0] with pci := 0xFED10000 })).addr = 0x00000000FED159A0 := by decide

/-- V5: locked, LOW and HIGH 0xFFFF_7FFF, DISABLE: only bits 15 are tested. -/
theorem test_mmiorc_already_reconciled :
    (after (exec (.mmiorc .disable)
      { running 5 .mmioRdHi [.ok 0] with mhi := 0xFFFF7FFF, tlo := 0xFFFF7FFF })).statusWord = 0x00080002 ∧
    (after (exec (.mmiorc .disable)
      { running 5 .mmioRdHi [.ok 0] with mhi := 0xFFFF7FFF, tlo := 0xFFFF7FFF })).mmioimg = 0xFFFF7FFFFFFF7FFF := by
  decide

/-- V5: unlocked, MIRROR: the image with bit 63 forced to 1. -/
theorem test_mmiorc_mirror_image :
    (after (exec (.mmiorc .mirror)
      { running 0x15 .mmioRdHi [.ok 0] with msrimg := 0x004280F0001480C8 })).newimg = 0x804280F0001480C8 := by decide

/-- P2, step 3: STATUS between two controller steps. -/
theorem test_run_resolves :
    (after (exec (.run .disable)
      { running 6 .pciRd [.ok 0] with status := { Status.clear with msrRpt := .written } })).statusWord = 0x04220001 := by
  decide

/-- V6: MMIO_WR_HI errs and leaves HIGH old. -/
theorem test_run_high_write_err :
    (after (exec (.run .disable) (runInMmioPart .mmioWrHi [.err false]))).statusWord = 0x00227106 ∧
    (after (exec (.run .disable) (runInMmioPart .mmioWrHi [.err false]))).mhi = 0 := by decide

/-! ### The step -/

/-- V7: `WR CMD, 0x3` while MCHRS runs is dropped. -/
theorem test_step_busy_write :
    (after (step { running 4 .pciRd [] with turns := [.host], program := [.wr 0 3] })).cmd = 4 ∧
    (after (step { running 4 .pciRd [] with turns := [.host], program := [.wr 0 3] })).status.wovr = true := by decide

/-- A host write of 0xABCD_0000_0000_0006 is `RUN DISABLE` (V1); STATUS is that of P2 after acceptance. -/
theorem test_step_issue :
    (after (step { bench with program := [.wr 0 0xABCD000000000006] })).cmd = 6 ∧
    (after (step { bench with program := [.wr 0 0xABCD000000000006] })).statusWord = 0x01000001 := by decide

/-- The placed word runs as the first command after reset. -/
theorem test_placed_word : (after (step (State.reset.withFetchWord 32 0x00000FE2))).r = 0x8000000000000000 := by decide

/-! ### Witnesses: the hypotheses of each obligation can be met, each clause of it -/

theorem witness_DecodeOfEncodeIsTheCommand :
    (Instr.testf 0).wellFormed = true ∧ (Instr.testf 63).wellFormed = true ∧
    (Instr.withf 63 true).wellFormed = true ∧ (Instr.run .mirror).wellFormed = true := by decide

theorem witness_EncodeOfDecodeIsTheWord : decode 0x00000FE2 = .ok (.withf 63 true) := by decide

theorem witness_EveryWordMatchesAtMostOneRow :
    (∃ r ∈ opcodeRows, rowMatches r 0x00000016 = true) ∧ ∀ r ∈ opcodeRows, rowMatches r 0x00000007 = false := by decide

theorem witness_IllegalWordsCompleteWithIllegalCommand :
    bench.busy = false ∧
    opField (lo32 0x0) = 0 ∧ 7 ≤ (opField (lo32 0x7)).toNat ∧ 7 ≤ (opField (lo32 0xF)).toNat ∧
    rsvField (lo32 0x1001) ≠ 0 ∧ rsvField (lo32 0x80000001) ≠ 0 ∧
    (opField (lo32 0x11) = 1 ∧ polField (lo32 0x11) = true) ∧ (opField (lo32 0x21) = 1 ∧ xField (lo32 0x21) = true) ∧
    (opField (lo32 0x12) = 2 ∧ polField (lo32 0x12) = true) ∧ (opField (lo32 0x13) = 3 ∧ polField (lo32 0x13) = true) ∧
    (opField (lo32 0x24) = 4 ∧ xField (lo32 0x24) = true) ∧ (opField (lo32 0x43) = 3 ∧ bitField (lo32 0x43) ≠ 0) ∧
    (opField (lo32 0x25) = 5 ∧ xField (lo32 0x25) = true) ∧ (opField (lo32 0x46) = 6 ∧ bitField (lo32 0x46) ≠ 0) ∧
    (∃ e, decode (lo32 0xABCD000000000026) = .error e) := by
  refine ⟨by decide, by decide, by decide, by decide, by decide, by decide, by decide, by decide, by decide, by decide,
    by decide, by decide, by decide, by decide, .unusedFieldSet, by decide⟩

theorem witness_AssembledCommandsAreWellFormed :
    parseCommand ['T', 'E', 'S', 'T', 'F', ' ', '6', '3'] = some (.testf 63) := by decide

theorem witness_CommandAcceptance :
    (running 4 .pciRd []).seq ≠ .idle ∧ bench.seq = .idle ∧ decode (lo32 0x7) = .error .unassignedOpcode ∧ decode (lo32 0x1) = .ok (.testf 0) ∧
    decode (lo32 0xFE2) = .ok (.withf 63 true) ∧ decode (lo32 0x3) = .ok .msrrc ∧ decode (lo32 0x4) = .ok .mchrs ∧
    decode (lo32 0x15) = .ok (.mmiorc .mirror) ∧ decode (lo32 0xABCD000000000006) = .ok (.run .disable) := by decide

theorem witness_ReconcileCommandsStart : bench.seq = .idle := by decide

theorem witness_TestfExtractsTheBit : 0 ≤ 63 ∧ 63 ≤ 63 ∧ bench.seq = .idle := by decide

theorem witness_WithfInsertsTheBit : 0 ≤ 63 ∧ 63 ≤ 63 ∧ bench.seq = .idle := by decide

theorem witness_CodecLaws : 0 ≤ 63 ∧ 31 ≤ 63 ∧ 32 ≤ 63 ∧ 63 ≤ 63 := by decide

theorem witness_CodecCommandsFrame :
    (∃ t, exec (.testf 63) bench = .next t) ∧ ∃ t, exec (.withf 0 true) bench = .next t := ⟨⟨_, rfl⟩, ⟨_, rfl⟩⟩

theorem witness_MsrReadStage :
    Instr.msrrc.hasMsrPart ∧ (Instr.run .mirror).hasMsrPart ∧ (running 3 .msrRd []).seq = .msrRd ∧
    nextDraw (running 3 .msrRd [.err false]) = .err false ∧ nextDraw (running 3 .msrRd [.ok 0]) = .ok 0 ∧
    (running 3 .msrRd [.ok 0]).msr &&& 0x0000800000008000 ≠ 0x0000800000008000 ∧
    { running 3 .msrRd [.ok 0] with msr := 0xFFFFFFFFFFFFFFFF }.msr &&& 0x0000800000008000 = 0x0000800000008000 :=
  ⟨.inl rfl, .inr ⟨_, rfl⟩, by decide, by decide, by decide, by decide, by decide⟩

theorem witness_MsrWriteStage :
    Instr.msrrc.hasMsrPart ∧ (Instr.run .disable).hasMsrPart ∧ (running 3 .msrWr []).seq = .msrWr ∧
    nextDraw (running 3 .msrWr [.ok 0]) = .ok 0 ∧ nextDraw (running 3 .msrWr [.err true]) = .err true ∧
    nextDraw (running 3 .msrWr [.err false]) = .err false :=
  ⟨.inl rfl, .inr ⟨_, rfl⟩, by decide, by decide, by decide, by decide⟩

/-- The hypotheses, and both clauses: M with one enable bit, and with both. -/
theorem witness_MsrReconcileWritesOnceOrNever :
    (∃ s : State, s.seq = .idle ∧ s.turns = [] ∧ s.program = [.issue .msrrc] ∧ s.draws = [.ok 0, .ok 0] ∧
      ¬ (s.msr.getLsbD 15 = true ∧ s.msr.getLsbD 47 = true)) ∧
    ∃ s : State, s.seq = .idle ∧ s.turns = [] ∧ s.program = [.issue .msrrc] ∧ s.draws = [.ok 0, .ok 0] ∧
      s.msr.getLsbD 15 = true ∧ s.msr.getLsbD 47 = true :=
  ⟨⟨{ bench with program := [.issue .msrrc], draws := [.ok 0, .ok 0], msr := 0x8000 }, by decide⟩,
    ⟨{ bench with program := [.issue .msrrc], draws := [.ok 0, .ok 0], msr := 0x0000800000008000 }, by decide⟩⟩

theorem witness_MsrStagesFrame :
    (∃ t, exec .msrrc (running 3 .msrRd [.ok 0]) = .next t) ∧ ∃ t, exec .msrrc (running 3 .msrWr [.err true]) = .next t :=
  ⟨⟨_, rfl⟩, ⟨_, rfl⟩⟩

theorem witness_PciReadStage :
    Instr.mchrs.hasPciPart ∧ (Instr.run .disable).hasPciPart ∧ (running 4 .pciRd []).seq = .pciRd ∧
    nextDraw (running 4 .pciRd [.err false]) = .err false ∧ nextDraw (running 4 .pciRd [.ok 0]) = .ok 0 ∧
    (running 4 .pciRd [.ok 0]).pci.getLsbD 0 = true ∧
    { running 4 .pciRd [.ok 0] with pci := 0xFED10000 }.pci.getLsbD 0 = false :=
  ⟨.inl rfl, .inr ⟨_, rfl⟩, by decide, by decide, by decide, by decide, by decide⟩

theorem witness_ResolvedAddressIsExact :
    Instr.mchrs.hasPciPart ∧ ∃ s : State, s.seq = .pciRd ∧ s.cfg.mmioOffset = 0x59A0 ∧ nextDraw s = .ok 0 ∧
      s.pci = 0xFFFFFFFF ∧ s.pci.getLsbD 0 = true :=
  ⟨.inl rfl, { running 4 .pciRd [.ok 0] with pci := 0xFFFFFFFF }, by decide⟩

theorem witness_BaseResolveChecksTheEnableBit :
    (∃ s : State, s.seq = .idle ∧ s.turns = [] ∧ s.program = [.issue .mchrs] ∧ s.draws = [.ok 0] ∧
      s.pci.getLsbD 0 = false) ∧
    ∃ s : State, s.seq = .idle ∧ s.turns = [] ∧ s.program = [.issue .mchrs] ∧ s.draws = [.ok 0] ∧
      s.pci.getLsbD 0 = true :=
  ⟨⟨{ bench with program := [.issue .mchrs], draws := [.ok 0], pci := 0xFED10000 }, by decide⟩,
    ⟨{ bench with program := [.issue .mchrs], draws := [.ok 0] }, by decide⟩⟩

theorem witness_PciStageFrame : ∃ t, exec .mchrs (running 4 .pciRd [.ok 0]) = .next t := ⟨_, rfl⟩

theorem witness_MmioReadLowStage :
    (Instr.mmiorc .disable).hasMmioPart .disable ∧ (Instr.run .mirror).hasMmioPart .mirror ∧
    (running 5 .mmioRdLo []).seq = .mmioRdLo ∧ nextDraw (running 5 .mmioRdLo [.err false]) = .err false ∧
    nextDraw (running 5 .mmioRdLo [.ok 7]) = .ok 7 :=
  ⟨.inl rfl, .inr rfl, by decide, by decide, by decide⟩

/-- The hypotheses of every clause: an error, LOCK = 1, LOCK = 0; at the mirror and where the read misses it. -/
theorem witness_MmioReadHighStage :
    (Instr.mmiorc .mirror).hasMmioPart .mirror ∧ (Instr.run .disable).hasMmioPart .disable ∧
    (running 5 .mmioRdHi []).seq = .mmioRdHi ∧ nextDraw (running 5 .mmioRdHi [.err false]) = .err false ∧
    (∃ s : State, s.seq = .mmioRdHi ∧ nextDraw s = .ok 0 ∧
      ((s.mirrorWord (s.addr + 4)).getD 0).getLsbD 31 = true) ∧
    (∃ s : State, s.seq = .mmioRdHi ∧ nextDraw s = .ok 0 ∧
      ((s.mirrorWord (s.addr + 4)).getD 0).getLsbD 31 = false) ∧
    ∃ s : State, s.seq = .mmioRdHi ∧ nextDraw s = .ok 0x80000000 ∧ s.mirrorWord (s.addr + 4) = none :=
  ⟨.inl rfl, .inr rfl, by decide, by decide,
    ⟨{ running 5 .mmioRdHi [.ok 0] with mhi := 0x80000000 }, by decide⟩,
    ⟨running 5 .mmioRdHi [.ok 0], by decide⟩,
    ⟨{ running 5 .mmioRdHi [.ok 0x80000000] with addr := 0xFFFFFFFFFFFFFFFC }, by decide⟩⟩

theorem witness_MmioWriteLowStage :
    (Instr.mmiorc .mirror).hasMmioPart .mirror ∧ (running 5 .mmioWrLo []).seq = .mmioWrLo ∧
    nextDraw (running 5 .mmioWrLo [.err true]) = .err true ∧ nextDraw (running 5 .mmioWrLo [.ok 0]) = .ok 0 :=
  ⟨.inl rfl, by decide, by decide, by decide⟩

theorem witness_MmioWriteHighStage :
    (Instr.run .mirror).hasMmioPart .mirror ∧ (running 0x16 .mmioWrHi []).seq = .mmioWrHi ∧
    nextDraw (running 0x16 .mmioWrHi [.err true]) = .err true ∧ nextDraw (running 0x16 .mmioWrHi [.ok 0]) = .ok 0 :=
  ⟨.inr rfl, by decide, by decide, by decide⟩

/-- The hypotheses, with the mirror answering and with an address that misses it. -/
theorem witness_MmioWriteStagesOnTheDevices :
    (∃ s t : State, s.seq = .mmioWrLo ∧ exec (.mmiorc .disable) s = .next t ∧ s.mirrorWord s.addr = some 0) ∧
    (∃ s t : State, s.seq = .mmioWrHi ∧ exec (.mmiorc .disable) s = .next t ∧ s.mirrorWord (s.addr + 4) = some 0) ∧
    ∃ s t : State, s.seq = .mmioWrLo ∧ exec (.run .mirror) s = .next t ∧ s.mirrorWord s.addr = none :=
  ⟨⟨running 5 .mmioWrLo [.ok 0], _, by decide, rfl, by decide⟩,
    ⟨running 5 .mmioWrHi [.err true], _, by decide, rfl, by decide⟩,
    ⟨{ running 0x16 .mmioWrLo [.ok 0] with addr := 0 }, _, by decide, rfl, by decide⟩⟩

theorem witness_MmioReadStagesFrame :
    (∃ t, exec (.mmiorc .mirror) (running 0x15 .mmioRdLo [.ok 0]) = .next t) ∧
    ∃ t, exec (.run .disable) (runInMmioPart .mmioRdHi [.ok 0]) = .next t := ⟨⟨_, rfl⟩, ⟨_, rfl⟩⟩

/-- The hypotheses, with the mirror locked and unlocked. -/
theorem witness_MmioReconcileOutcomes :
    (∃ s : State, s.seq = .idle ∧ s.turns = [] ∧ s.program = [.issue (.mmiorc .mirror)] ∧
      s.draws = [.ok 0, .ok 0, .ok 0, .ok 0] ∧ s.addr = s.cfg.mirrorPa ∧ s.locked = true) ∧
    ∃ s : State, s.seq = .idle ∧ s.turns = [] ∧ s.program = [.issue (.mmiorc .disable)] ∧
      s.draws = [.ok 0, .ok 0, .ok 0, .ok 0] ∧ s.addr = s.cfg.mirrorPa ∧ s.locked = false :=
  ⟨⟨{ bench with
        program := [.issue (.mmiorc .mirror)], draws := [.ok 0, .ok 0, .ok 0, .ok 0], addr := 0xFED159A0
        mhi := 0x80008000 }, by decide⟩,
    ⟨{ bench with
        program := [.issue (.mmiorc .disable)], draws := [.ok 0, .ok 0, .ok 0, .ok 0], addr := 0xFED159A0 }, by decide⟩⟩

/-- The answers to come have no part in the register invariant. -/
theorem registerInv_draws (s : State) (ds : List Config.Draw) (h : RegisterInv s) :
    RegisterInv { s with draws := ds } :=
  ⟨h.running, h.inProgress, h.untouched, h.fatalErr, h.stageErr, h.warnReport, h.oneOutcome, h.baseForm, h.lockSet⟩

/-- A state in the MMIO part of RUN meets the register invariant. -/
theorem runInMmioPart_inv (q : Machine.Seq) (ds : List Config.Draw)
    (hq : q = .mmioRdLo ∨ q = .mmioRdHi ∨ q = .mmioWrLo ∨ q = .mmioWrHi) : RegisterInv (runInMmioPart q ds) := by
  refine registerInv_draws (runInMmioPart q []) ds ?_
  rcases hq with rfl | rfl | rfl | rfl
  all_goals
    constructor
    case running => exact fun _ => ⟨.run .disable, by decide, by decide, by
      simp [reportsSoFar, runInMmioPart, running]⟩
    case stageErr => exact rfl
    all_goals decide

theorem witness_WrittenLockedMeansTheMirrorHoldsTheImage :
    ∃ s : State, RegisterInv s ∧ WriteWindow s ∧ (Instr.run .disable).hasMmioPart .disable ∧ s.seq = .mmioWrHi ∧
      s.cfg.extWriters = false ∧ s.addr = s.cfg.mirrorPa ∧ nextDraw s = .ok 0 :=
  ⟨runInMmioPart .mmioWrHi [.ok 0], runInMmioPart_inv _ _ (by decide), fun _ _ => by decide, .inr rfl, by decide⟩

theorem witness_ExternalLockGoesUnnoticed :
    ∃ s : State, (Instr.mmiorc .disable).hasMmioPart .disable ∧ s.command = some (.mmiorc .disable) ∧
      s.seq = .mmioWrLo ∧ s.turns = [] ∧ s.program = [] ∧ s.draws = [.ok 0, .ok 0] ∧ s.addr = s.cfg.mirrorPa ∧
      s.locked = true :=
  ⟨{ running 5 .mmioWrLo [.ok 0, .ok 0] with mhi := 0x80000000 }, .inl rfl, by decide⟩

theorem witness_NoAnswerLeavesTheStage :
    (running 3 .msrRd [.noAnswer]).seq ∈ stagesOf .msrrc ∧ (running 3 .msrRd [.noAnswer]).seq ≠ .idle ∧
    nextDraw (running 3 .msrRd [.noAnswer]) = .noAnswer := by decide

/-- Both ways in which the host's turn comes. -/
theorem witness_StepRunsTheIssuedCommand :
    (∃ s : State, s.seq = .idle ∧ decode (lo32 6) = .ok (.run .disable) ∧ s.program = [.wr HostReg.cmd.index 6] ∧
      s.turns = [.host]) ∧
    ∃ s : State, s.seq = .idle ∧ decode (lo32 6) = .ok (.run .disable) ∧ s.program = [.wr HostReg.cmd.index 6] ∧
      s.turns = [] :=
  ⟨⟨{ bench with program := [.wr 0 6], turns := [.host] }, by decide⟩, ⟨{ bench with program := [.wr 0 6] }, by decide⟩⟩

/-- Each clause: a scheduled turn, the default turn, and a turn with no command running, also where CMD holds none. -/
theorem witness_StepRunsTheRunningCommand :
    (∃ s : State, decode s.cmd = .ok .mchrs ∧ s.seq ≠ .idle ∧ s.turns = [.controller]) ∧
    (∃ s : State, decode s.cmd = .ok .mchrs ∧ s.seq ≠ .idle ∧ s.turns = []) ∧
    (∃ s : State, decode s.cmd = .ok .mchrs ∧ s.seq = .idle ∧ s.turns = [.controller]) ∧
    ∃ s : State, decode s.cmd = .error .unassignedOpcode ∧ s.seq = .idle ∧ s.turns = [.controller] :=
  ⟨⟨{ running 4 .pciRd [] with turns := [.controller] }, by decide⟩, ⟨running 4 .pciRd [], by decide⟩,
    ⟨{ running 4 .idle [] with turns := [.controller] }, by decide⟩, ⟨{ bench with turns := [.controller] }, by decide⟩⟩

theorem witness_PlacedWordRuns : decodeTableWord 32 0x15 = some (.mmiorc .mirror) := by decide

theorem witness_HostWriteWhileBusyIsDropped : (running 4 .pciRd []).busy = true := by decide

/-- The clauses: an index of its own for each register, a command's word, and an index with no effect. -/
theorem witness_HostWriteWhileIdle :
    bench.busy = false ∧ decode ((0x3 : Word64).extractLsb' 0 32) = .ok .msrrc ∧
    decode ((0x7 : Word64).extractLsb' 0 32) = .error .unassignedOpcode ∧
    ∃ idx : BitVec 4, idx ≠ 0 ∧ idx ≠ 2 ∧ idx ≠ 5 ∧ idx ≠ 8 := ⟨by decide, by decide, by decide, 11, by decide⟩

theorem witness_HostWriteToReadOnlyHasNoEffect : 11 ≤ (11 : BitVec 4).toNat ∧ 11 ≤ (15 : BitVec 4).toNat := by decide

theorem witness_HostReadReturnsTheRegister : 11 ≤ (11 : BitVec 4).toNat ∧ 11 ≤ (15 : BitVec 4).toNat := by decide

/-- Both clauses: the state after power-on, and a block reset of a running command. -/
theorem witness_ResetStateReadsZero :
    (∃ t : State, t = State.reset) ∧ ∃ t : State, t = blockReset false (running 4 .pciRd []) := ⟨⟨_, rfl⟩, ⟨_, rfl⟩⟩

/-- The clauses: nothing landed, a locked mirror, an MSR write, a mirror write of each word, and a stray write. -/
theorem witness_BlockResetKeepsTheDevices :
    (∃ s : State, s.turns = [.blockReset false]) ∧
    (∃ s : State, s.turns = [.blockReset true] ∧ s.seq = .pciRd) ∧
    (∃ s : State, s.turns = [.blockReset true] ∧ s.seq = .mmioWrLo ∧ s.locked = true) ∧
    (∃ s : State, s.turns = [.blockReset true] ∧ s.seq = .msrWr) ∧
    (∃ s : State, s.turns = [.blockReset true] ∧ s.seq = .mmioWrHi ∧ s.mirrorWord (s.addr + 4) = some 0) ∧
    ∃ s : State, s.turns = [.blockReset true] ∧ s.seq = .mmioWrLo ∧ s.mirrorWord s.addr = none :=
  ⟨⟨{ bench with turns := [.blockReset false] }, by decide⟩,
    ⟨{ running 4 .pciRd [] with turns := [.blockReset true] }, by decide⟩,
    ⟨{ running 5 .mmioWrLo [] with turns := [.blockReset true], mhi := 0x80000000 }, by decide⟩,
    ⟨{ running 3 .msrWr [] with turns := [.blockReset true] }, by decide⟩,
    ⟨{ running 5 .mmioWrHi [] with turns := [.blockReset true] }, by decide⟩,
    ⟨{ running 5 .mmioWrLo [] with turns := [.blockReset true], addr := 0 }, by decide⟩⟩

theorem witness_PowerOnUnlocksTheMirror :
    ∃ s : State, s.turns = [.powerOn true 1 2 0xFFFFFFFF 3] ∧ s.locked = true :=
  ⟨{ bench with turns := [.powerOn true 1 2 0xFFFFFFFF 3], mhi := 0x80000000 }, by decide⟩

/-- Each turn, where the write is admitted, where it is not, and where the mirror rejects it. -/
theorem witness_ExternalWritersObeyTheRules :
    (∃ s : State, s.turns = [.extMsrWrite 5] ∧ s.cfg.extWriters = true ∧ s.seq = .msrWr) ∧
    (∃ s : State, s.turns = [.extMirrorWrite false 5] ∧ s.cfg.extWriters = false ∧ s.seq = .idle) ∧
    (∃ s : State, s.turns = [.extMirrorWrite true 5] ∧ s.cfg.extWriters = true ∧ s.locked = true) ∧
    (∃ s : State, s.turns = [.firmwareMsrWrite 5] ∧ s.commanded = false ∧ s.seq = .idle) ∧
    (∃ s : State, s.turns = [.firmwareMirrorWrite false 5] ∧ s.commanded = true ∧ s.seq = .idle) ∧
    ∃ s : State, s.turns = [.firmwareMirrorWrite true 5] ∧ s.commanded = false ∧ s.seq = .idle ∧ s.locked = false :=
  ⟨⟨{ running 3 .msrWr [] with turns := [.extMsrWrite 5], cfg := withWriters }, by decide⟩,
    ⟨{ bench with turns := [.extMirrorWrite false 5] }, by decide⟩,
    ⟨{ bench with turns := [.extMirrorWrite true 5], cfg := withWriters, mhi := 0x80000000 }, by decide⟩,
    ⟨{ bench with turns := [.firmwareMsrWrite 5] }, by decide⟩,
    ⟨{ running 3 .idle [] with turns := [.firmwareMirrorWrite false 5] }, by decide⟩,
    ⟨{ bench with turns := [.firmwareMirrorWrite true 5] }, by decide⟩⟩

/-- Each clause: an unlocked mirror, a locked one, the two read stages, and a step of a locked machine. -/
theorem witness_LockStateMachine :
    bench.locked = false ∧ { bench with mhi := 0x80000000 }.locked = true ∧
    (∃ t, exec (.mmiorc .disable) (running 5 .mmioRdLo [.ok 0]) = .next t) ∧
    (∃ t, exec (.mmiorc .disable) (running 5 .mmioRdHi [.ok 0]) = .next t) ∧
    ∃ s t : State, step s = .next t ∧ s.locked = true ∧ nextTurn s = .controller :=
  ⟨by decide, by decide, ⟨_, rfl⟩, ⟨_, rfl⟩,
    { running 5 .mmioWrLo [.ok 0] with mhi := 0x80000000 }, _, rfl, by decide, by decide⟩

theorem witness_OnlyAHighWriteLocks :
    ∃ s t : State, exec (.mmiorc .disable) s = .next t ∧ s.locked = false ∧ t.locked = true :=
  ⟨{ running 5 .mmioWrHi [.ok 0] with newimg := 0x8000000000000000 }, _, rfl, by decide, by decide⟩

/-- Each clause: a step that changes the PCI dword, one that changes the MSR, and one that changes the mirror. -/
theorem witness_DevicesChangeOnlyInTheirTurns :
    (∃ s t : State, step s = .next t ∧ t.pci ≠ s.pci) ∧ (∃ s t : State, step s = .next t ∧ t.msr ≠ s.msr) ∧
    ∃ s t : State, step s = .next t ∧ (t.mlo ≠ s.mlo ∨ t.mhi ≠ s.mhi) :=
  ⟨⟨{ bench with turns := [.platformPci 0] }, _, rfl, by decide⟩, ⟨running 3 .msrWr [.ok 0], _, rfl, by decide⟩,
    ⟨{ bench with turns := [.firmwareMirrorWrite true 5] }, _, rfl, by decide⟩⟩

/-- Each clause: a busy state, and a command without each part. -/
theorem witness_CommandsWriteOnlyTheirRegisters :
    (∃ s t : State, exec .mchrs s = .next t ∧ s.busy = true) ∧ (∀ b, Instr.mchrs ≠ .testf b) ∧
    (∀ b x, Instr.mchrs ≠ .withf b x) ∧ ¬ Instr.mchrs.hasMsrPart ∧ ¬ Instr.msrrc.hasPciPart ∧
    ∀ p, ¬ Instr.msrrc.hasMmioPart p :=
  ⟨⟨running 4 .pciRd [.ok 0], _, rfl, by decide⟩, by simp, by simp, by simp [Instr.hasMsrPart],
    by simp [Instr.hasPciPart], by simp [Instr.hasMmioPart]⟩

/-- Two states with the same registers and the same answer, with other devices. -/
theorem witness_SameResponsesSameResults :
    ∃ s₁ s₂ t₁ t₂ : State, SameRegisters s₁ s₂ ∧ s₁.cfg = s₂.cfg ∧ s₁.trace = s₂.trace ∧
      exec .msrrc s₁ = .next t₁ ∧ exec .msrrc s₂ = .next t₂ ∧ t₁.trace.map (·.resp) = t₂.trace.map (·.resp) ∧
      s₁.mlo ≠ s₂.mlo :=
  ⟨running 3 .msrRd [.ok 0], { running 3 .msrRd [.ok 0] with mlo := 1 }, _, _, by constructor <;> rfl, rfl, rfl, rfl, rfl,
    by decide, by decide⟩

theorem witness_StepKeepsRegisterInv : ∃ s t : State, RegisterInv s ∧ step s = .next t :=
  ⟨runInMmioPart .mmioWrHi [.ok 0], _, runInMmioPart_inv _ _ (by decide), rfl⟩

theorem witness_EveryStepAnswersANextState : ∃ s : State, RegisterInv s :=
  ⟨runInMmioPart .mmioRdLo [], runInMmioPart_inv _ _ (by decide)⟩

theorem witness_StepKeepsCompletionStatusListed :
    ∃ s t : State, RegisterInv s ∧ CompletionStatusListed s ∧ step s = .next t :=
  ⟨runInMmioPart .mmioWrHi [.ok 0], _, runInMmioPart_inv _ _ (by decide), by
    intro h; exact absurd h (by decide), rfl⟩

/-- A state of RUN about to read HIGH, with the transactions it has made. -/
def runAtReadHigh : State :=
  { runInMmioPart .mmioRdHi [.ok 0] with
    mhi := 0x80000000
    trace := [⟨.msrRd, .msrRead 0x123, .value64 0⟩, ⟨.msrWr, .msrWrite 0x123 0x0000800000008000, .ok⟩,
      ⟨.pciRd, .pciRead 0 0 0 0x048, .value32 0xFED10001⟩, ⟨.mmioRdLo, .memRead 0xFED159A0, .value32 0⟩] }

theorem runAtReadHigh_inv : RegisterInv runAtReadHigh := by
  constructor
  case running => exact fun _ => ⟨.run .disable, by decide, by decide, by
    simp [reportsSoFar, runAtReadHigh, runInMmioPart, running]⟩
  case stageErr => exact rfl
  all_goals decide

theorem runAtReadHigh_trace : TraceInv runAtReadHigh := by
  constructor
  case running =>
    exact fun _ => ⟨.run .disable, by decide, ⟨_, List.mem_of_getElem? (i := 2) rfl, by decide⟩, by decide⟩
  case requests =>
    refine ⟨0xFED159A0, fun _ => rfl, fun t ht => ?_⟩
    simp only [runAtReadHigh, List.mem_cons, List.not_mem_nil, or_false] at ht
    rcases ht with rfl | rfl | rfl | rfl
    · exact rfl
    · exact rfl
    · exact ⟨rfl, rfl, rfl, rfl⟩
    · exact rfl
  all_goals intro h; exact absurd h (by decide)

theorem witness_StepKeepsTraceInv : ∃ s t : State, RegisterInv s ∧ TraceInv s ∧ step s = .next t ∧ s.busy = true :=
  ⟨runAtReadHigh, _, runAtReadHigh_inv, runAtReadHigh_trace, rfl, by decide⟩

/-- A step that finds LOCK set. -/
theorem witness_StepKeepsWriteAvoidance :
    ∃ s t : State, RegisterInv s ∧ TraceInv s ∧ WriteAvoidance s ∧ step s = .next t ∧ s.locked = true :=
  ⟨runAtReadHigh, _, runAtReadHigh_inv, runAtReadHigh_trace, by
    refine ⟨?_, rfl, by decide⟩
    rintro ⟨t, ht, w, hq, -⟩
    simp only [runAtReadHigh, List.mem_cons, List.not_mem_nil, or_false] at ht
    rcases ht with rfl | rfl | rfl | rfl <;> cases hq⟩

/-- A step into a report of a LOCKED mirror. -/
theorem witness_StepKeepsReportsTrue :
    ∃ s t : State, RegisterInv s ∧ TraceInv s ∧ ReportsTrue s ∧ step s = .next t ∧
      t.status.mmioRpt = .alreadyReconciled :=
  ⟨runAtReadHigh, _, runAtReadHigh_inv, runAtReadHigh_trace, by
    constructor
    case lowWord => exact fun _ => ⟨_, List.mem_of_getElem? (i := 3) rfl, rfl, rfl⟩
    all_goals
      simp [ReadMirror, runAtReadHigh, runInMmioPart, running, Status.clear, allSet, reqMask, baseEnabled,
        isFieldEnabled, zext64], rfl, rfl⟩

/-- A step into the window between the two writes. -/
theorem witness_StepKeepsWriteWindow :
    ∃ s t : State, WriteWindow s ∧ step s = .next t ∧ t.seq = .mmioWrHi ∧ s.cfg.extWriters = false ∧
      s.addr = s.cfg.mirrorPa :=
  ⟨runInMmioPart .mmioWrLo [.ok 0], _, fun _ _ => by decide, rfl, by decide⟩

theorem witness_CommandsEndWhenDevicesAnswer :
    ∃ s : State, RegisterInv s ∧ s.busy = true ∧ s.turns = [] ∧ s.program = [] ∧ Answered 7 s :=
  ⟨runInMmioPart .mmioRdLo (List.replicate 7 (.ok 0)), runInMmioPart_inv _ _ (by decide), by decide, by decide, by decide,
    by decide, by decide⟩

theorem witness_StandaloneCommandsRefineTheirPseudocode :
    ∃ s : State, s.seq = .idle ∧ s.turns = [] ∧ s.program = [.issue (.mmiorc .mirror)] ∧ Answered 4 s :=
  ⟨{ bench with program := [.issue (.mmiorc .mirror)], draws := List.replicate 4 (.ok 0) }, by decide, by decide, by decide,
    by decide, by decide⟩

theorem witness_RunRefinesItsPseudocode :
    ∃ s : State, s.seq = .idle ∧ s.turns = [] ∧ s.program = [.issue (.run .mirror)] ∧ Answered 7 s :=
  ⟨{ bench with program := [.issue (.run .mirror)], draws := List.replicate 7 (.ok 0) }, by decide, by decide, by decide,
    by decide, by decide⟩

end Sys2Proof.Tests
end

section
/-! SUPPORT. The turns of the external writer and of firmware: a turn is one guarded write of the MSR or of a mirror
word, and what such a write leaves in the state is said once per word. -/

namespace Sys2Proof.Machine

/-- A schedule that is not empty decides who moves, and the turn is taken off it (00_scope.md R8). -/
theorem step_of_turns_cons {s : State} {turn : Turn} {ts : List Turn} (h : s.turns = turn :: ts) :
    step s = takeTurn turn { s with turns := ts } := by
  simp [step, stepAgents, nextTurn, dropTurn, h]

/-- Another agent's write of the mirror's LOW word: the word while UNLOCKED, nothing while LOCKED (20_memory.md R57). -/
theorem performMirrorWrite_low (w : Word32) (s : State) :
    performMirrorWrite false w s = { s with mlo := if s.locked = false then w else s.mlo } := by
  cases hl : s.locked <;> simp [performMirrorWrite, performMemWrite, hl]

/-- As `performMirrorWrite_low`, for the HIGH word. -/
theorem performMirrorWrite_high (w : Word32) (s : State) :
    performMirrorWrite true w s = { s with mhi := if s.locked = false then w else s.mhi } := by
  cases hl : s.locked <;> simp [performMirrorWrite, performMemWrite, hl]

/-- An MSR write made only where `mayWrite` holds changes the MSR there and nothing else. -/
theorem guarded_msrWrite (mayWrite : Prop) [Decidable mayWrite] (v : Word64) (s : State) :
    (if mayWrite then performMsrWrite v s else s) = { s with msr := if mayWrite then v else s.msr } := by
  by_cases hg : mayWrite <;> simp [hg, performMsrWrite]

/-- A LOW write made only where `mayWrite` holds meets two guards, the agent's and the mirror's LOCK. -/
theorem guarded_mirrorWrite_low (mayWrite : Prop) [Decidable mayWrite] (w : Word32) (s : State) :
    (if mayWrite then performMirrorWrite false w s else s) =
      { s with mlo := if mayWrite ∧ s.locked = false then w else s.mlo } := by
  by_cases hg : mayWrite <;> simp [hg, performMirrorWrite_low]

/-- As `guarded_mirrorWrite_low`, for the HIGH word. -/
theorem guarded_mirrorWrite_high (mayWrite : Prop) [Decidable mayWrite] (w : Word32) (s : State) :
    (if mayWrite then performMirrorWrite true w s else s) =
      { s with mhi := if mayWrite ∧ s.locked = false then w else s.mhi } := by
  by_cases hg : mayWrite <;> simp [hg, performMirrorWrite_high]

/-- Settles O44: the turn is the head of the schedule, and each turn is one write under its agent's guard, met at the
mirror by LOCK. Firmware's guard reads BUSY, which is SEQ ≠ IDLE. -/
theorem externalWritersObeyTheRules : Obligations.ExternalWritersObeyTheRules := by
  intro s ts v w
  obtain ⟨extMsr, extLow, firmwareMsr, firmwareLow⟩ := otherWrite_cases v false w { s with turns := ts }
  obtain ⟨-, extHigh, -, firmwareHigh⟩ := otherWrite_cases v true w { s with turns := ts }
  simp only [not_busy_iff] at firmwareMsr firmwareLow firmwareHigh
  refine ⟨fun h => ?extMsr, fun h => ?extLow, fun h => ?extHigh, fun h => ?firmwareMsr, fun h => ?firmwareLow,
    fun h => ?firmwareHigh⟩ <;> rw [step_of_turns_cons h] <;> apply congrArg Host.Outcome.next
  case extMsr => exact extMsr.trans (guarded_msrWrite _ v _)
  case extLow => exact extLow.trans (guarded_mirrorWrite_low _ w _)
  case extHigh => exact extHigh.trans (guarded_mirrorWrite_high _ w _)
  case firmwareMsr => exact firmwareMsr.trans (guarded_msrWrite _ v _)
  case firmwareLow => exact firmwareLow.trans (guarded_mirrorWrite_low _ w _)
  case firmwareHigh => exact firmwareHigh.trans (guarded_mirrorWrite_high _ w _)

end Sys2Proof.Machine
end

section
/-! SUPPORT. A step, seen by the command in progress: what each agent's turn leaves of the registers that only a command
writes, said once, so that an invariant of those registers has one case for all other agents. -/

namespace Sys2Proof.Machine

/-- What only a command, its acceptance and a reset write: two states at the same point of the same command. -/
structure SameCommand (s t : State) : Prop where
  cmd    : t.cmd = s.cmd
  status : t.status = s.status
  base   : t.base = s.base
  newimg : t.newimg = s.newimg
  seq    : t.seq = s.seq
  tlo    : t.tlo = s.tlo
  trace  : t.trace = s.trace

theorem SameCommand.eq {s t : State} (h : SameCommand s t) :
    t = { t with
      cmd := s.cmd, status := s.status, base := s.base, newimg := s.newimg, seq := s.seq, tlo := s.tlo
      trace := s.trace } :=
  State.ext h.cmd h.status rfl rfl rfl rfl rfl h.base rfl rfl h.newimg h.seq h.tlo rfl rfl rfl rfl rfl h.trace
    rfl rfl rfl rfl rfl rfl rfl

theorem SameCommand.trans {s t u : State} (h : SameCommand s t) (h' : SameCommand t u) : SameCommand s u := by
  rw [h'.eq, h.eq]
  constructor <;> rfl

theorem SameCommand.refl (s : State) : SameCommand s s := by constructor <;> rfl

theorem Surrounded.sameCommand {s t : State} (h : Surrounded s t) : SameCommand s t := by
  rw [h]
  constructor <;> rfl

theorem sameCommand_dropTurn (s : State) : SameCommand s (dropTurn s) := by constructor <;> rfl

theorem sameCommand_blockReset (landed : Bool) (s : State) : SameCommand State.reset (blockReset landed s) := by
  constructor <;> rfl

theorem sameCommand_performMsrWrite (v : Word64) (s : State) : SameCommand s (performMsrWrite v s) := by
  constructor <;> rfl

theorem sameCommand_performMemWrite (addr : Word64) (w : Word32) (s : State) :
    SameCommand s (performMemWrite addr w s) := by
  constructor <;> simp

/-- A guarded write keeps what the write keeps. -/
theorem SameCommand.guarded {s t : State} (mayWrite : Prop) [Decidable mayWrite] (h : SameCommand s t) :
    SameCommand s (if mayWrite then t else s) := by
  split
  · exact h
  · exact .refl s

theorem sameCommand_performMirrorWrite (high : Bool) (w : Word32) (s : State) :
    SameCommand s (performMirrorWrite high w s) := sameCommand_performMemWrite _ w s

theorem sameCommand_platformPci (d : Word32) (s : State) : SameCommand s (platformPci d s) := by
  unfold platformPci
  split <;> constructor <;> rfl

/-! ### Every turn, by what it does to the command in progress -/

/-- What a step does to the command in progress, by the fields `SameCommand` names. -/
inductive CommandStep (s t : State) : Prop where
  /-- Another agent's turn, or one without effect. -/
  | same (h : SameCommand s t)
  /-- A host write is dropped. -/
  | dropped (hb : s.busy = true) (h : SameCommand (setWovr s) t)
  /-- A block reset or power-on. -/
  | reset (h : SameCommand State.reset t)
  /-- A word that is no command is accepted. -/
  | illegal (w : Word32) (e : DecodeError) (hb : s.busy = false) (hd : decode w = .error e)
      (h : SameCommand (acceptIllegal w s) t)
  /-- A command is accepted, or the running one performs a stage. -/
  | exec (i : Instr) (s₀ : State) (h₀ : SameCommand s s₀) (running : s.busy = true → decode s.cmd = .ok i)
      (issued : s.busy = false → ∃ w, decode w = .ok i) (ht : exec i s₀ = .next t)

/-- Only the host's and the controller's turns and a reset reach the command in progress (00_scope.md R8). -/
theorem step_commandStep {s t : State} (h : step s = .next t) : CommandStep s t := by
  have hdrop := sameCommand_dropTurn s
  cases step_cases h with
  | quiet h₀ => exact .same h₀.sameCommand
  | stage i s₀ h₀ _ hb hd ht => exact .exec i s₀ h₀.sameCommand (fun _ => hd) (by simp [hb]) ht
  | issue i w s₀ h₀ hb hd ht => exact .exec i s₀ h₀.sameCommand (by simp [hb]) (fun _ => ⟨w, hd⟩) ht
  | illegal e w s₀ h₀ hb hd ht =>
    refine .illegal w e hb hd ?_
    rw [ht, h₀]
    constructor <;> rfl
  | dropped s₀ h₀ hb ht =>
    refine .dropped hb ?_
    rw [ht, h₀]
    constructor <;> rfl
  | hostData s₀ h₀ _ a m d ht =>
    refine .same ?_
    rw [ht, h₀]
    constructor <;> rfl
  | reset landed _ ht => exact .reset (ht ▸ sameCommand_blockReset landed _)
  | power landed msr mlo mhi pci _ ht =>
    refine .reset ?_
    rw [ht]
    constructor <;> rfl
  | extMsr v _ ht => exact .same (ht ▸ hdrop.trans (.guarded _ (sameCommand_performMsrWrite v _)))
  | extMirror high w _ ht => exact .same (ht ▸ hdrop.trans (.guarded _ (sameCommand_performMirrorWrite high w _)))
  | firmwareMsr v _ ht => exact .same (ht ▸ hdrop.trans (.guarded _ (sameCommand_performMsrWrite v _)))
  | firmwareMirror high w _ ht => exact .same (ht ▸ hdrop.trans (.guarded _ (sameCommand_performMirrorWrite high w _)))
  | platform d _ ht => exact .same (ht ▸ hdrop.trans (sameCommand_platformPci d _))

end Sys2Proof.Machine
end

section
/-! SUPPORT. The register invariant: STATUS while a command runs and when it has completed, the ways a stage ends, and
the step. -/

namespace Sys2Proof.Machine

theorem RegisterInv.of_same {s t : State} (h : SameCommand s t) (hs : RegisterInv s) : RegisterInv t := by
  rw [h.eq]
  exact ⟨hs.running, hs.inProgress, hs.untouched, hs.fatalErr, hs.stageErr, hs.warnReport, hs.oneOutcome, hs.baseForm,
    hs.lockSet⟩

theorem registerInv_reset : RegisterInv State.reset := by
  constructor
  case running => intro h; cases h
  case stageErr => rfl
  all_goals decide

/-! ### STATUS of a running and of a completed command -/

/-- STATUS while a command runs: no outcome reported (10_state.md R23). -/
structure Status.InProgress (st : Status) : Prop where
  done    : st.done = false
  fatal   : st.fatal = false
  warn    : st.warn = false
  err     : st.err = .none
  stage   : st.stage = .idle
  mmioRpt : st.mmioRpt = .notRun

/-- The clauses of `RegisterInv` that speak of STATUS alone (10_state.md R24, R26, R28). -/
structure Status.Consistent (st : Status) : Prop where
  fatalErr   : st.fatal = true ↔ st.err ≠ .none
  stageErr   : match st.err with
    | .none | .illegalCmd => st.stage = .idle
    | .access             => st.stage ≠ .idle
    | .baseDisabled       => st.stage = .pciRd
  warnReport : st.warn = true ↔ st.mmioRpt = .lockedWithLimitsActive ∨ st.mmioRpt = .lockedCannotMirror
  oneOutcome : ¬ (st.fatal = true ∧ st.warn = true)

theorem Status.InProgress.consistent {st : Status} (h : st.InProgress) : st.Consistent where
  fatalErr := by simp [h.fatal, h.err]
  stageErr := by simp [h.err, h.stage]
  warnReport := by simp [h.warn, h.mmioRpt]
  oneOutcome := by simp [h.fatal]

theorem Status.InProgress.complete_consistent {st : Status} (h : st.InProgress) : { st with done := true }.Consistent :=
  ⟨h.consistent.fatalErr, h.consistent.stageErr, h.consistent.warnReport, h.consistent.oneOutcome⟩

theorem Status.InProgress.access_consistent {st : Status} (h : st.InProgress) {q : Seq} (hq : q ≠ .idle) :
    { st with done := true, fatal := true, err := .access, stage := q }.Consistent where
  fatalErr := by simp
  stageErr := hq
  warnReport := h.consistent.warnReport
  oneOutcome := by simp [h.warn]

theorem Status.InProgress.baseDisabled_consistent {st : Status} (h : st.InProgress) :
    { st with done := true, fatal := true, err := .baseDisabled, stage := .pciRd }.Consistent where
  fatalErr := by simp
  stageErr := rfl
  warnReport := h.consistent.warnReport
  oneOutcome := by simp [h.warn]

theorem Status.InProgress.report_consistent {st : Status} (h : st.InProgress) (warn : Bool) (c : MmioReport)
    (hc : warn = true ↔ c = .lockedWithLimitsActive ∨ c = .lockedCannotMirror) :
    { st with done := true, warn := warn, mmioRpt := c }.Consistent where
  fatalErr := h.consistent.fatalErr
  stageErr := h.consistent.stageErr
  warnReport := hc
  oneOutcome := by simp [h.fatal]

theorem Status.InProgress.setMsrReport {st : Status} (h : st.InProgress) (c : MsrReport) :
    { st with msrRpt := c }.InProgress :=
  ⟨h.done, h.fatal, h.warn, h.err, h.stage, h.mmioRpt⟩

theorem Status.InProgress.setMchOk {st : Status} (h : st.InProgress) : { st with mchOk := true }.InProgress :=
  ⟨h.done, h.fatal, h.warn, h.err, h.stage, h.mmioRpt⟩

theorem Status.clear_inProgress : Status.clear.InProgress := by constructor <;> rfl

theorem RegisterInv.inProgress_status {s : State} (hs : RegisterInv s) (hb : s.busy = true) :
    s.status.InProgress := by
  obtain ⟨hdone, hfatal, hwarn, herr, hstage, hrpt⟩ := hs.inProgress hb
  exact ⟨hdone, hfatal, hwarn, herr, hstage, hrpt⟩

/-- The running command is the one CMD decodes to. -/
theorem RegisterInv.running_command {s : State} {i : Instr} (hs : RegisterInv s) (hb : s.busy = true)
    (hd : decode s.cmd = .ok i) : s.seq ∈ stagesOf i ∧ reportsSoFar i s := by
  obtain ⟨j, hj, hmem, hrep⟩ := hs.running hb
  have hij : i = j := by simpa [State.command, hd] using hj
  exact hij ▸ ⟨hmem, hrep⟩

/-- A completed command's state meets the invariant when its STATUS and BASE do. -/
theorem registerInv_of_completed {t : State} (hq : t.seq = .idle) (hd : t.status.done = true)
    (hst : t.status.Consistent) (hb : t.base &&& 0xFFFFFFFF00000001 = 0) : RegisterInv t where
  running := by simp [State.busy, hq]
  inProgress := by simp [State.busy, hq]
  untouched := by simp [hd]
  fatalErr := hst.fatalErr
  stageErr := hst.stageErr
  warnReport := hst.warnReport
  oneOutcome := hst.oneOutcome
  baseForm := hb
  lockSet := by simp [hq]

theorem idle_notMem_stagesOf (i : Instr) : Seq.idle ∉ stagesOf i := by cases i <;> simp [stagesOf]

/-- A command that goes on to another of its stages keeps the invariant. -/
theorem registerInv_goto {i : Instr} {q : Seq} {s : State} (hd : decode s.cmd = .ok i)
    (hq : q ∈ stagesOf i ∧ reportsSoFar i (goto q s)) (hst : s.status.InProgress)
    (hb : s.base &&& 0xFFFFFFFF00000001 = 0)
    (hl : q = .mmioWrLo ∨ q = .mmioWrHi → lockBit (hi32 s.newimg) = true) : RegisterInv (goto q s) where
  running := fun _ => ⟨i, by simp [State.command, hd], hq⟩
  inProgress := fun _ => ⟨hst.done, hst.fatal, hst.warn, hst.err, hst.stage, hst.mmioRpt⟩
  untouched := fun h => by
    have hidle : q = .idle := by simpa [State.busy] using h
    exact absurd (hidle ▸ hq.1) (idle_notMem_stagesOf i)
  fatalErr := hst.consistent.fatalErr
  stageErr := hst.consistent.stageErr
  warnReport := hst.consistent.warnReport
  oneOutcome := hst.consistent.oneOutcome
  baseForm := hb
  lockSet := hl

/-- The word of a command with stages decodes to it (30_encoding.md R84). -/
theorem decode_encode_of_stages {i : Instr} {q : Seq} (hi : q ∈ stagesOf i) : decode (encode i) = .ok i := by
  cases i with
  | testf b => cases hi
  | withf b x => cases hi
  | msrrc => rfl
  | mchrs => rfl
  | mmiorc p => cases p <;> rfl
  | run p => cases p <;> rfl

/-- A command's first stage is that of its first part (30_encoding.md R86). -/
theorem firstStage_cases {i : Instr} {first : Seq} (hi : (stagesOf i).head? = some first) :
    (i.hasMsrPart ∧ first = .msrRd) ∨ (i = .mchrs ∧ first = .pciRd) ∨ ∃ p, i = .mmiorc p ∧ first = .mmioRdLo := by
  cases i <;> simp [stagesOf, eq_comm] at hi <;> simp [Instr.hasMsrPart, hi]

/-- No part has reported at a command's first stage. -/
theorem registerInv_start {i : Instr} {first : Seq} {s : State} (hs : RegisterInv s)
    (hi : (stagesOf i).head? = some first) : RegisterInv (goto first (accept (encode i) s)) := by
  have hmem : first ∈ stagesOf i := List.mem_of_head? hi
  refine registerInv_goto (decode_encode_of_stages hmem) ⟨hmem, ?_⟩ Status.clear_inProgress hs.baseForm ?_ <;>
    obtain ⟨rfl | ⟨p, rfl⟩, rfl⟩ | ⟨rfl, rfl⟩ | ⟨p, rfl, rfl⟩ := firstStage_cases hi <;>
    simp [reportsSoFar, Status.clear]

/-- A failing transaction ends the command. -/
theorem registerInv_raiseAccess {q : Seq} {s : State} (hq : q ≠ .idle) (hst : s.status.InProgress)
    (hb : s.base &&& 0xFFFFFFFF00000001 = 0) : RegisterInv (raiseAccess q s) :=
  registerInv_of_completed rfl rfl (hst.access_consistent hq) hb

/-- After the MSR part and the PCI part RUN goes on, and every other command completes. -/
theorem registerInv_afterPart {i : Instr} {q : Seq} {s : State} (hd : decode s.cmd = .ok i)
    (hst : s.status.InProgress) (hb : s.base &&& 0xFFFFFFFF00000001 = 0) (hq : q = .pciRd ∨ q = .mmioRdLo)
    (hr : ∀ p, i = .run p → reportsSoFar i (goto q s)) : RegisterInv (afterPart i q s) := by
  obtain ⟨e, -⟩ | ⟨e, p, rfl⟩ := afterPart_cases i q s <;> rw [e]
  · exact registerInv_of_completed rfl rfl hst.complete_consistent hb
  · refine registerInv_goto hd ⟨?_, hr p rfl⟩ hst hb ?_ <;> rcases hq with rfl | rfl <;> simp [stagesOf]

/-- At every stage of RUN's MMIO part the MSR part has reported and the base is resolved (45_sequence.md R191, R192). -/
theorem reportsSoFar_run_mmio {p : Policy} {s : State} (hq : s.seq ∈ stagesOf (.mmiorc p)) :
    reportsSoFar (.run p) s ↔ s.status.msrRpt ≠ .notRun ∧ s.status.mchOk = true := by
  simp only [stagesOf, List.mem_cons, List.not_mem_nil, or_false] at hq
  rcases hq with hq | hq | hq | hq <;> simp [reportsSoFar, hq]

/-- The MMIO part changes no report but its own, and that one only at its end. -/
theorem reportsSoFar_mmio {i : Instr} {p : Policy} {q : Seq} {s s₁ : State} (hi : i.hasMmioPart p)
    (hq : s.seq ∈ stagesOf (.mmiorc p)) (hq' : q ∈ stagesOf (.mmiorc p)) (hst : s₁.status = s.status)
    (hr : reportsSoFar i s) : q ∈ stagesOf i ∧ reportsSoFar i (goto q s₁) := by
  obtain rfl | rfl := hi
  · exact ⟨hq', by simpa [reportsSoFar, hst] using hr⟩
  · refine ⟨List.mem_append_right [Seq.msrRd, .msrWr, .pciRd] hq', ?_⟩
    rw [reportsSoFar_run_mmio hq] at hr
    rw [reportsSoFar_run_mmio hq', goto_status, hst]
    exact hr

/-- The base a dword holds is a 32-bit value with bit 0 clear (43_mchbar_resolve.md R142). -/
theorem baseOf_and_eq_zero (d : Word32) : baseOf d &&& 0xFFFFFFFF00000001 = 0 := by
  have hmask : (0xFFFFFFFF00000001 : Word64) = (0xFFFFFFFF : Word32) ++ (0x00000001 : Word32) := by decide
  have hbase : baseOf d = (0 : Word32) ++ clearMask32 d 0x00000001 := by
    simp [baseOf, zext64, BitVec.setWidth_eq_append]
  rw [hmask, hbase, BitVec.and_append]
  simp [clearMask32, BitVec.and_assoc]

/-- What an MSR transaction finds of the reports of the command that makes it. -/
theorem no_reports_at_msr {i : Instr} {s : State} (hr : reportsSoFar i s) (hq : s.seq = .msrRd ∨ s.seq = .msrWr) :
    s.status.msrRpt = .notRun ∧ s.status.mchOk = false := by
  rcases hq with hq | hq <;> cases i <;> simpa [reportsSoFar, hq] using hr

theorem sameCommand_dropDraw (s : State) : SameCommand s (dropDraw s) := by constructor <;> simp

/-- A command's acceptance or stage keeps the invariant: it completes, or goes on to another of its stages. -/
theorem exec_keeps_registerInv {i : Instr} {s t : State} (hs : RegisterInv s)
    (hd : s.busy = true → decode s.cmd = .ok i) (h : exec i s = .next t) : RegisterInv t := by
  have hbase := hs.baseForm
  have at_stage : s.seq ≠ .idle → decode s.cmd = .ok i ∧ s.status.InProgress ∧ reportsSoFar i s := fun hq =>
    have hb := (busy_iff s).mpr hq
    ⟨hd hb, hs.inProgress_status hb, (hs.running_command hb (hd hb)).2⟩
  cases exec_cases h with
  | codec hq _ r ht =>
    subst ht
    exact registerInv_of_completed rfl rfl Status.clear_inProgress.complete_consistent hbase
  | start hq first hi ht => exact ht ▸ registerInv_start hs hi
  | waiting _ _ ht => exact ht ▸ hs.of_same (sameCommand_dropDraw s)
  | readErr _ _ hi _ _ ht =>
    have hq : s.seq ≠ .idle := fun hq => idle_notMem_stagesOf i (hq ▸ hi)
    obtain ⟨-, hst, -⟩ := at_stage hq
    exact ht ▸ registerInv_raiseAccess hq (by simpa using hst) (by simpa using hbase)
  | msrEnabled _ hq _ _ _ ht =>
    obtain ⟨hc, hst, hr⟩ := at_stage (by simp [hq])
    have hrep := no_reports_at_msr hr (.inl hq)
    subst ht
    refine registerInv_afterPart (by simpa using hc) (by simpa using hst.setMsrReport _) (by simpa using hbase)
      (.inl rfl) ?_
    rintro p rfl
    simp [reportsSoFar, hrep]
  | msrToWrite _ hq hi _ _ ht =>
    obtain ⟨hc, hst, hr⟩ := at_stage (by simp [hq])
    have hrep := no_reports_at_msr hr (.inl hq)
    subst ht
    refine registerInv_goto (by simpa using hc) ?_ (by simpa using hst) (by simpa using hbase) (by simp)
    obtain rfl | ⟨p, rfl⟩ := hi <;> simp [stagesOf, reportsSoFar, hrep]
  | msrWritten _ hq _ _ ht =>
    obtain ⟨hc, hst, hr⟩ := at_stage (by simp [hq])
    have hrep := no_reports_at_msr hr (.inr hq)
    subst ht
    refine registerInv_afterPart (by simpa using hc) (by simpa using hst.setMsrReport _) (by simpa using hbase)
      (.inl rfl) ?_
    rintro p rfl
    simp [reportsSoFar, hrep]
  | msrWriteErr _ hq _ _ ht =>
    obtain ⟨-, hst, -⟩ := at_stage (by simp [hq])
    exact ht ▸ registerInv_raiseAccess (by simp) (by simpa using hst) (by simpa using hbase)
  | resolved _ hq _ _ _ ht =>
    obtain ⟨hc, hst, hr⟩ := at_stage (by simp [hq])
    subst ht
    refine registerInv_afterPart (by simpa using hc) (by simpa using hst.setMchOk) (baseOf_and_eq_zero _) (.inr rfl) ?_
    rintro p rfl
    obtain ⟨hmsr, -⟩ : s.status.msrRpt ≠ .notRun ∧ s.status.mchOk = false := by simpa [reportsSoFar, hq] using hr
    simpa [reportsSoFar] using hmsr
  | disabled _ hq _ _ _ ht =>
    obtain ⟨-, hst, -⟩ := at_stage (by simp [hq])
    subst ht
    exact registerInv_of_completed rfl rfl (by simpa using hst.baseDisabled_consistent) (by simpa using hbase)
  | lowRead _ p hq hi _ ht =>
    obtain ⟨hc, hst, hr⟩ := at_stage (by simp [hq])
    subst ht
    exact registerInv_goto (by simpa using hc)
      (reportsSoFar_mmio hi (by simp [hq, stagesOf]) (by simp [stagesOf]) (by simp) hr) (by simpa using hst)
      (by simpa using hbase) (by simp)
  | foundLocked any p hq _ _ _ ht =>
    obtain ⟨-, hst, -⟩ := at_stage (by simp [hq])
    subst ht
    obtain ⟨_, e⟩ | ⟨_, _, e⟩ | ⟨_, _, e⟩ := lockedOutcome_cases p s.tlo (memReadValue s.highAddr any s) _ <;> rw [e]
    · exact registerInv_of_completed rfl rfl
        (by simpa using hst.report_consistent true .lockedWithLimitsActive (by simp)) (by simpa using hbase)
    · exact registerInv_of_completed rfl rfl
        (by simpa [hst.warn] using hst.report_consistent false .alreadyReconciled (by simp)) (by simpa using hbase)
    · exact registerInv_of_completed rfl rfl
        (by simpa using hst.report_consistent true .lockedCannotMirror (by simp)) (by simpa using hbase)
  | foundUnlocked _ p hq hi _ _ ht =>
    obtain ⟨hc, hst, hr⟩ := at_stage (by simp [hq])
    subst ht
    exact registerInv_goto (by simpa using hc)
      (reportsSoFar_mmio hi (by simp [hq, stagesOf]) (by simp [stagesOf]) (by simp) hr) (by simpa using hst)
      (by simpa using hbase) (by simp)
  | lowWritten _ p hq hi _ ht =>
    obtain ⟨hc, hst, hr⟩ := at_stage (by simp [hq])
    subst ht
    exact registerInv_goto (by simpa using hc)
      (reportsSoFar_mmio hi (by simp [hq, stagesOf]) (by simp [stagesOf]) (by simp) hr) (by simpa using hst)
      (by simpa using hbase) (fun _ => by simpa using hs.lockSet (.inl hq))
  | lowWriteErr _ _ hq _ _ ht =>
    obtain ⟨-, hst, -⟩ := at_stage (by simp [hq])
    exact ht ▸ registerInv_raiseAccess (by simp) (by simpa using hst) (by simpa using hbase)
  | highWritten _ _ hq _ _ ht =>
    obtain ⟨-, hst, -⟩ := at_stage (by simp [hq])
    subst ht
    exact registerInv_of_completed rfl rfl
      (by simpa [hst.warn] using hst.report_consistent false .writtenLocked (by simp)) (by simpa using hbase)
  | highWriteErr _ _ hq _ _ ht =>
    obtain ⟨-, hst, -⟩ := at_stage (by simp [hq])
    exact ht ▸ registerInv_raiseAccess (by simp) (by simpa using hst) (by simpa using hbase)

/-- A dropped write sets WOVR and nothing else (10_state.md R30). -/
theorem RegisterInv.setWovr {s : State} (hs : RegisterInv s) (hb : s.busy = true) : RegisterInv (setWovr s) where
  running := hs.running
  inProgress := hs.inProgress
  untouched := fun h => by cases hb.symm.trans h
  fatalErr := hs.fatalErr
  stageErr := hs.stageErr
  warnReport := hs.warnReport
  oneOutcome := hs.oneOutcome
  baseForm := hs.baseForm
  lockSet := hs.lockSet

/-- A word that is no command completes with IllegalCommand (30_encoding.md R85). -/
theorem registerInv_acceptIllegal {s : State} (hs : RegisterInv s) (w : Word32) : RegisterInv (acceptIllegal w s) :=
  registerInv_of_completed rfl rfl (by constructor <;> simp [acceptIllegal, Status.clear]) hs.baseForm

/-- Settles O51: every other agent leaves the command in progress as it was, a reset puts the registers at rest, and the
command's own step is `exec_keeps_registerInv`. -/
theorem stepKeepsRegisterInv : Obligations.StepKeepsRegisterInv := by
  intro s t hs h
  cases step_commandStep h with
  | same h => exact hs.of_same h
  | dropped hb h => exact (hs.setWovr hb).of_same h
  | reset h => exact registerInv_reset.of_same h
  | illegal w _ _ _ h => exact (registerInv_acceptIllegal hs w).of_same h
  | exec i s₀ h₀ running _ ht =>
    have hd₀ : s₀.busy = true → decode s₀.cmd = .ok i := by simpa [State.busy, h₀.cmd, h₀.seq] using running
    exact exec_keeps_registerInv (hs.of_same h₀) hd₀ ht

end Sys2Proof.Machine
end

section
/-! SUPPORT. STATUS's reports against the transactions: the order of a command's transactions, what a transaction shows,
and what it adds to the reports. -/

namespace Sys2Proof.Machine

theorem ReportsTrue.of_same {s t : State} (h : SameCommand s t) (hs : ReportsTrue s) : ReportsTrue t := by
  rw [h.eq]
  exact ⟨hs.alreadyEnabled, hs.written, hs.resolved, hs.writtenLocked, hs.limitsActive, hs.alreadyReconciled,
    hs.cannotMirror, hs.lowWord⟩

/-! ### The order of a command's transactions -/

/-- Along every path of a command the stage codes increase (10_state.md R25, R36; 45_sequence.md R195). -/
theorem fullPaths_increasing (i : Instr) : ∀ p ∈ fullPaths i, p.Pairwise (fun q r => q.code < r.code) := by
  cases i <;> simp only [fullPaths] <;> decide

/-- While a command runs, the stages it has done and the one SEQ names have increasing codes. -/
def StagesIncrease (s : State) : Prop :=
  s.busy = true → (s.stages ++ [s.seq]).Pairwise (fun q r => q.code < r.code)

theorem TraceInv.stagesIncrease {s : State} (hs : TraceInv s) : StagesIncrease s := by
  intro hb
  obtain ⟨i, -, ⟨p, hp, hpre⟩, -⟩ := hs.running hb
  exact (fullPaths_increasing i p hp).sublist hpre.sublist

theorem StagesIncrease.of_same {s t : State} (h : SameCommand s t) (hs : StagesIncrease s) : StagesIncrease t := by
  rw [h.eq]
  exact hs

/-- Every transaction made is at an earlier stage than the one SEQ names. -/
theorem StagesIncrease.earlier {s : State} (hs : StagesIncrease s) (hq : s.seq ≠ .idle) {x : Txn} (hx : x ∈ s.trace) :
    x.stage.code < s.seq.code := by
  have h := (List.pairwise_append.mp (hs ((busy_iff s).mpr hq))).2.2
  exact h _ (List.mem_map_of_mem hx) _ (List.mem_singleton_self _)

/-- A running command has made at most one transaction at each stage. -/
theorem StagesIncrease.unique {s : State} (hs : StagesIncrease s) (hq : s.seq ≠ .idle) {x y : Txn}
    (hx : x ∈ s.trace) (hy : y ∈ s.trace) (h : x.stage = y.stage) : x = y := by
  have hpair := (List.pairwise_append.mp (hs ((busy_iff s).mpr hq))).1
  have hnodup : s.stages.Nodup := hpair.imp fun hlt heq => by simp [heq] at hlt
  exact List.inj_on_of_nodup_map hnodup hx hy h

/-! ### What one transaction shows -/

/-- An MSR read that returned both enable bits (10_state.md R27). -/
def Txn.ShowsEnabled (x : Txn) : Prop := ∃ v, x.stage = .msrRd ∧ x.resp = .value64 v ∧ allSet v reqMask = true

/-- A PCI read that returned an enabled dword (10_state.md R29). -/
def Txn.ShowsResolved (x : Txn) : Prop := ∃ d, x.stage = .pciRd ∧ x.resp = .value32 d ∧ baseEnabled d = true

/-- A write at stage `q` that returned `ok` (10_state.md R27, R28). -/
def Txn.ShowsWrite (q : Seq) (x : Txn) : Prop := x.stage = q ∧ x.resp = .ok

/-- An MMIO read at stage `q` that returned `w` (44_mmio_reconcile.md R163, R164). -/
def Txn.ShowsRead (q : Seq) (w : Word32) (x : Txn) : Prop := x.stage = q ∧ x.resp = .value32 w

theorem exists_mem_concat {P : Txn → Prop} {l : List Txn} {x : Txn} :
    (∃ y ∈ l ++ [x], P y) ↔ (∃ y ∈ l, P y) ∨ P x := by
  simp [or_and_right, exists_or]

/-- The reports of a state in which no locked mirror has been read: the reports of a LOCKED mirror are not made. -/
theorem reportsTrue_of_noLockRead {t : State}
    (alreadyEnabled : t.status.msrRpt = .alreadyEnabled ↔ ∃ x ∈ t.trace, x.ShowsEnabled)
    (written : t.status.msrRpt = .written ↔ ∃ x ∈ t.trace, x.ShowsWrite .msrWr)
    (resolved : t.status.mchOk = true ↔ ∃ x ∈ t.trace, x.ShowsResolved)
    (writtenLocked : t.status.mmioRpt = .writtenLocked ↔ ∃ x ∈ t.trace, x.ShowsWrite .mmioWrHi)
    (unreported : t.status.mmioRpt = .notRun ∨ t.status.mmioRpt = .writtenLocked)
    (noLock : ∀ lo hi, ReadMirror t lo hi → lockBit hi = false)
    (lowWord : t.seq = .mmioRdHi → ∃ x ∈ t.trace, x.ShowsRead .mmioRdLo t.tlo) : ReportsTrue t where
  alreadyEnabled := alreadyEnabled
  written := written
  resolved := resolved
  writtenLocked := writtenLocked
  limitsActive := by
    refine ⟨fun h => by simp [h] at unreported, ?_⟩
    rintro ⟨lo, hi, hread, hlock, -⟩
    simp [noLock lo hi hread] at hlock
  alreadyReconciled := by
    refine ⟨fun h => by simp [h] at unreported, ?_⟩
    rintro ⟨-, lo, hi, hread, hlock, -⟩
    simp [noLock lo hi hread] at hlock
  cannotMirror := by
    refine ⟨fun h => by simp [h] at unreported, ?_⟩
    rintro ⟨-, lo, hi, hread, hlock, -⟩
    simp [noLock lo hi hread] at hlock
  lowWord := lowWord

/-- Before a command's first transaction nothing is reported. -/
theorem reportsTrue_of_noTransactions {t : State} (htr : t.trace = []) (hmsr : t.status.msrRpt = .notRun)
    (hmch : t.status.mchOk = false) (hmmio : t.status.mmioRpt = .notRun) (hq : t.seq ≠ .mmioRdHi) : ReportsTrue t := by
  apply reportsTrue_of_noLockRead <;> simp [htr, hmsr, hmch, hmmio, hq, ReadMirror]

/-- A running command has made no report of the mirror, so it has not read one with LOCK set. -/
theorem ReportsTrue.noLockRead {s : State} (hs : ReportsTrue s) (h : s.status.mmioRpt = .notRun) (lo hi : Word32)
    (hread : ReadMirror s lo hi) : lockBit hi = false := by
  by_contra hlock
  have hlock : lockBit hi = true := by simpa using hlock
  have hlimits : mirrorPl1Enabled lo = false ∧ mirrorPl2Enabled hi = false := by
    have hnone : ¬ ∃ lo hi, ReadMirror s lo hi ∧ lockBit hi = true ∧
        (mirrorPl1Enabled lo = true ∨ mirrorPl2Enabled hi = true) := by simp [← hs.limitsActive, h]
    have := fun hen => hnone ⟨lo, hi, hread, hlock, hen⟩
    simpa using this
  cases hpol : s.lpol with
  | false => simp [hs.alreadyReconciled.mpr ⟨hpol, lo, hi, hread, hlock, hlimits⟩] at h
  | true => simp [hs.cannotMirror.mpr ⟨hpol, lo, hi, hread, hlock, hlimits⟩] at h

/-- What a transaction adds to the reports while no report of the mirror has been made and none of a LOCKED one is. -/
theorem reportsTrue_append {s t : State} {x : Txn} (hs : ReportsTrue s) (hrun : s.status.mmioRpt = .notRun)
    (htr : t.trace = s.trace ++ [x])
    (enabled : t.status.msrRpt = .alreadyEnabled ↔ s.status.msrRpt = .alreadyEnabled ∨ x.ShowsEnabled)
    (written : t.status.msrRpt = .written ↔ s.status.msrRpt = .written ∨ x.ShowsWrite .msrWr)
    (resolved : t.status.mchOk = true ↔ s.status.mchOk = true ∨ x.ShowsResolved)
    (locked : t.status.mmioRpt = .notRun ∧ ¬ x.ShowsWrite .mmioWrHi ∨
      t.status.mmioRpt = .writtenLocked ∧ x.ShowsWrite .mmioWrHi)
    (noLock : ∀ lo hi, ReadMirror t lo hi → lockBit hi = false)
    (lowWord : t.seq = .mmioRdHi → x.ShowsRead .mmioRdLo t.tlo) : ReportsTrue t := by
  have unwritten : ¬ ∃ y ∈ s.trace, y.ShowsWrite .mmioWrHi := fun h => by simp [hs.writtenLocked.mpr h] at hrun
  refine reportsTrue_of_noLockRead ?_ ?_ ?_ ?_ (locked.imp And.left And.left) noLock fun hq => ?_ <;>
    rw [htr, exists_mem_concat]
  · rw [enabled, hs.alreadyEnabled]; rfl
  · rw [written, hs.written]; rfl
  · rw [resolved, hs.resolved]; rfl
  · obtain ⟨h, hx⟩ | ⟨h, hx⟩ := locked <;> simp [h, hx, unwritten]
  · exact .inr (lowWord hq)

/-- A transaction that gives no report a reason. -/
structure Txn.Silent (x : Txn) : Prop where
  notEnabled  : ¬ x.ShowsEnabled
  notWritten  : ¬ x.ShowsWrite .msrWr
  notResolved : ¬ x.ShowsResolved
  notLocking  : ¬ x.ShowsWrite .mmioWrHi
  notLow      : ∀ lo, ¬ x.ShowsRead .mmioRdLo lo
  unlocked    : ∀ hi, x.ShowsRead .mmioRdHi hi → lockBit hi = false

theorem Txn.silent_of_err (q : Seq) (req : Request) : (Txn.mk q req .err).Silent := by
  constructor <;> simp [ShowsEnabled, ShowsWrite, ShowsResolved, ShowsRead]

/-- A transaction that reads neither LOW nor a LOCKED HIGH word leaves the mirror's reading as it was. -/
theorem ReportsTrue.noLockRead_append {s t : State} {x : Txn} (hs : ReportsTrue s)
    (hrun : s.status.mmioRpt = .notRun) (htr : t.trace = s.trace ++ [x]) (notLow : ∀ lo, ¬ x.ShowsRead .mmioRdLo lo)
    (unlocked : ∀ hi, x.ShowsRead .mmioRdHi hi → lockBit hi = false) (lo hi : Word32) (hread : ReadMirror t lo hi) :
    lockBit hi = false := by
  obtain ⟨hlow, hhigh⟩ := hread
  rw [htr, exists_mem_concat] at hlow hhigh
  have hlow := hlow.resolve_right (notLow lo)
  obtain hhigh | hx := hhigh
  · exact hs.noLockRead hrun lo hi ⟨hlow, hhigh⟩
  · exact unlocked hi hx

theorem reportsTrue_append_silent {s t : State} {x : Txn} (hs : ReportsTrue s) (hrun : s.status.mmioRpt = .notRun)
    (htr : t.trace = s.trace ++ [x]) (hx : x.Silent) (hmsr : t.status.msrRpt = s.status.msrRpt)
    (hmch : t.status.mchOk = s.status.mchOk) (hmmio : t.status.mmioRpt = s.status.mmioRpt) (hq : t.seq ≠ .mmioRdHi) :
    ReportsTrue t :=
  reportsTrue_append hs hrun htr (by simp [hmsr, hx.notEnabled]) (by simp [hmsr, hx.notWritten])
    (by simp [hmch, hx.notResolved]) (.inl ⟨hmmio.trans hrun, hx.notLocking⟩)
    (hs.noLockRead_append hrun htr hx.notLow hx.unlocked) (fun h => absurd h hq)

/-- The reports after a transaction that is no MMIO read. -/
theorem reportsTrue_append_nonRead {s t : State} {x : Txn} (hs : ReportsTrue s) (hrun : s.status.mmioRpt = .notRun)
    (htr : t.trace = s.trace ++ [x]) (hx : x.stage ≠ .mmioRdLo ∧ x.stage ≠ .mmioRdHi) (hq : t.seq ≠ .mmioRdHi)
    (enabled : t.status.msrRpt = .alreadyEnabled ↔ s.status.msrRpt = .alreadyEnabled ∨ x.ShowsEnabled)
    (written : t.status.msrRpt = .written ↔ s.status.msrRpt = .written ∨ x.ShowsWrite .msrWr)
    (resolved : t.status.mchOk = true ↔ s.status.mchOk = true ∨ x.ShowsResolved)
    (locked : t.status.mmioRpt = .notRun ∧ ¬ x.ShowsWrite .mmioWrHi ∨
      t.status.mmioRpt = .writtenLocked ∧ x.ShowsWrite .mmioWrHi) : ReportsTrue t :=
  reportsTrue_append hs hrun htr enabled written resolved locked
    (hs.noLockRead_append hrun htr (fun _ h => hx.1 h.1) (fun _ h => absurd h.1 hx.2)) (fun h => absurd h hq)

/-- A failing transaction makes no report but the error. -/
theorem reportsTrue_raiseAccess {q : Seq} {req : Request} {s s₁ : State} (hs : ReportsTrue s)
    (hrun : s.status.mmioRpt = .notRun) (htr : s₁.trace = s.trace) (hst : s₁.status = s.status) :
    ReportsTrue (raiseAccess q (record q req .err s₁)) :=
  reportsTrue_append_silent hs hrun (by simp only [raiseAccess_trace, record_trace, htr]) (Txn.silent_of_err q req)
    (by simp [hst]) (by simp [hst]) (by simp [hst]) (by simp)

/-- The latched policy is the operand of the command in CMD (10_state.md R37; 30_encoding.md R82, R83). -/
theorem lpol_of_decode {s : State} {i : Instr} {p : Policy} (hd : decode s.cmd = .ok i) (hi : i.hasMmioPart p) :
    s.lpol = bitOfPolicy p := by
  obtain ⟨r, -, -, rfl⟩ := (decode_ok_iff _ _).mp hd
  have hbit : ∀ b, bitOfPolicy (policyOfBit b) = b := by decide
  cases hm : r.mnemonic <;> simp [hm, commandOf, Instr.hasMmioPart] at hi <;> subst hi <;> exact (hbit _).symm

@[simp] theorem afterPart_trace (i : Instr) (q : Seq) (s : State) : (afterPart i q s).trace = s.trace := by
  cases i <;> rfl

@[simp] theorem afterPart_msrRpt (i : Instr) (q : Seq) (s : State) :
    (afterPart i q s).status.msrRpt = s.status.msrRpt := by cases i <;> rfl

@[simp] theorem afterPart_mchOk (i : Instr) (q : Seq) (s : State) :
    (afterPart i q s).status.mchOk = s.status.mchOk := by cases i <;> rfl

@[simp] theorem afterPart_mmioRpt (i : Instr) (q : Seq) (s : State) :
    (afterPart i q s).status.mmioRpt = s.status.mmioRpt := by cases i <;> rfl

/-- No part of a command is followed by the HIGH read. -/
theorem afterPart_seq_ne {i : Instr} {q : Seq} (s : State) (hq : q ≠ .mmioRdHi) :
    (afterPart i q s).seq ≠ .mmioRdHi := by
  obtain ⟨e, -⟩ | ⟨e, -⟩ := afterPart_cases i q s <;> simp [e, hq]

/-- At the HIGH read the command's LOW word is TLO, and it has read no HIGH word (10_state.md R37). -/
theorem readMirror_append_high {s t : State} {req : Request} {hi₀ : Word32} (hs : ReportsTrue s)
    (ho : StagesIncrease s) (hq : s.seq = .mmioRdHi)
    (htr : t.trace = s.trace ++ [⟨.mmioRdHi, req, .value32 hi₀⟩]) (lo hi : Word32) :
    ReadMirror t lo hi ↔ lo = s.tlo ∧ hi = hi₀ := by
  have hne : s.seq ≠ .idle := by simp [hq]
  obtain ⟨x, hx, hxq, hxw⟩ := hs.lowWord hq
  have noHigh : ¬ ∃ y ∈ s.trace, y.ShowsRead .mmioRdHi hi := by
    rintro ⟨y, hy, hyq, -⟩
    have hlt := ho.earlier hne hy
    simp [hyq, hq] at hlt
  have hlow : (∃ y ∈ s.trace, y.ShowsRead .mmioRdLo lo) ↔ lo = s.tlo := by
    constructor
    · rintro ⟨y, hy, hyq, hyw⟩
      have heq := ho.unique hne hy hx (hyq.trans hxq.symm)
      simpa [heq, hxw, eq_comm] using hyw
    · rintro rfl
      exact ⟨x, hx, hxq, hxw⟩
  have hread : ReadMirror t lo hi ↔
      (∃ y ∈ t.trace, y.ShowsRead .mmioRdLo lo) ∧ ∃ y ∈ t.trace, y.ShowsRead .mmioRdHi hi := Iff.rfl
  rw [hread, htr, exists_mem_concat, exists_mem_concat, hlow, or_iff_right noHigh]
  simp [Txn.ShowsRead, eq_comm]

/-- The report of a LOCKED mirror (44_mmio_reconcile.md R166 to R168). -/
def lockedReport (p : Policy) (lo hi : Word32) : MmioReport :=
  if anyEnabled lo hi then .lockedWithLimitsActive
  else match p with
    | .disable => .alreadyReconciled
    | .mirror  => .lockedCannotMirror

theorem lockedReport_iff (p : Policy) (lo hi : Word32) :
    (lockedReport p lo hi = .lockedWithLimitsActive ↔ mirrorPl1Enabled lo = true ∨ mirrorPl2Enabled hi = true) ∧
    (lockedReport p lo hi = .alreadyReconciled ↔
      bitOfPolicy p = false ∧ mirrorPl1Enabled lo = false ∧ mirrorPl2Enabled hi = false) ∧
    (lockedReport p lo hi = .lockedCannotMirror ↔
      bitOfPolicy p = true ∧ mirrorPl1Enabled lo = false ∧ mirrorPl2Enabled hi = false) ∧
    lockedReport p lo hi ≠ .writtenLocked := by
  unfold lockedReport anyEnabled
  cases p <;> cases mirrorPl1Enabled lo <;> cases mirrorPl2Enabled hi <;> decide

/-- `lockedOutcome` reports and completes; it changes no other report and no transaction. -/
theorem lockedOutcome_effect (p : Policy) (lo hi : Word32) (s : State) :
    (lockedOutcome p lo hi s).status.mmioRpt = lockedReport p lo hi ∧
      (lockedOutcome p lo hi s).status.msrRpt = s.status.msrRpt ∧
      (lockedOutcome p lo hi s).status.mchOk = s.status.mchOk ∧ (lockedOutcome p lo hi s).trace = s.trace ∧
      (lockedOutcome p lo hi s).cmd = s.cmd ∧ (lockedOutcome p lo hi s).seq = .idle := by
  obtain ⟨ha, e⟩ | ⟨ha, rfl, e⟩ | ⟨ha, rfl, e⟩ := lockedOutcome_cases p lo hi s <;> rw [e] <;> simp [lockedReport, ha]

/-- The report of a LOCKED mirror is the one its two words and the policy call for. -/
theorem reportsTrue_foundLocked {p : Policy} {s t : State} {req : Request} {hi : Word32}
    (hs : ReportsTrue s) (ho : StagesIncrease s) (hq : s.seq = .mmioRdHi) (hrun : s.status.mmioRpt = .notRun)
    (hpol : t.lpol = bitOfPolicy p) (hlock : lockBit hi = true)
    (htr : t.trace = s.trace ++ [⟨.mmioRdHi, req, .value32 hi⟩]) (hmsr : t.status.msrRpt = s.status.msrRpt)
    (hmch : t.status.mchOk = s.status.mchOk) (hmmio : t.status.mmioRpt = lockedReport p s.tlo hi)
    (hend : t.seq = .idle) : ReportsTrue t := by
  have hread := readMirror_append_high hs ho hq htr
  have unwritten : ¬ ∃ y ∈ s.trace, y.ShowsWrite .mmioWrHi := fun h => by simp [hs.writtenLocked.mpr h] at hrun
  have shows : ∀ {P : Txn → Prop}, ¬ P ⟨.mmioRdHi, req, .value32 hi⟩ → ((∃ y ∈ t.trace, P y) ↔ ∃ y ∈ s.trace, P y) :=
    fun hP => by rw [htr, exists_mem_concat, or_iff_left hP]
  obtain ⟨limits, reconciled, cannot, neverWritten⟩ := lockedReport_iff p s.tlo hi
  constructor
  case limitsActive => simp [hmmio, limits, hread, hlock]
  case alreadyReconciled => simp [hmmio, reconciled, hread, hlock, hpol]
  case cannotMirror => simp [hmmio, cannot, hread, hlock, hpol]
  case alreadyEnabled => rw [shows (by simp), hmsr, hs.alreadyEnabled]
  case written => rw [shows (by simp), hmsr, hs.written]
  case resolved => rw [shows (by simp), hmch, hs.resolved]
  case writtenLocked =>
    rw [shows (by simp), hmmio]
    exact iff_of_false neverWritten unwritten
  case lowWord => simp [hend]

/-- A command's acceptance or stage keeps the reports true. -/
theorem exec_keeps_reportsTrue {i : Instr} {s t : State} (hi : RegisterInv s) (ho : StagesIncrease s)
    (hs : ReportsTrue s) (hd : s.busy = true → decode s.cmd = .ok i) (h : exec i s = .next t) : ReportsTrue t := by
  have at_stage : s.seq ≠ .idle → decode s.cmd = .ok i ∧ s.status.mmioRpt = .notRun ∧ reportsSoFar i s := fun hq =>
    have hb := (busy_iff s).mpr hq
    ⟨hd hb, (hi.inProgress_status hb).mmioRpt, (hi.running_command hb (hd hb)).2⟩
  cases exec_cases h with
  | codec hq _ r ht => exact ht ▸ reportsTrue_of_noTransactions rfl rfl rfl rfl (by simp)
  | start hq first hfirst ht =>
    refine ht ▸ reportsTrue_of_noTransactions rfl rfl rfl rfl ?_
    obtain ⟨-, rfl⟩ | ⟨-, rfl⟩ | ⟨p, -, rfl⟩ := firstStage_cases hfirst <;> simp
  | waiting _ _ ht => exact ht ▸ hs.of_same (sameCommand_dropDraw s)
  | readErr _ req hmem _ _ ht =>
    obtain ⟨-, hrun, -⟩ := at_stage fun hq => idle_notMem_stagesOf i (hq ▸ hmem)
    exact ht ▸ reportsTrue_raiseAccess hs hrun (by simp) (by simp)
  | msrEnabled _ hq _ _ hv ht =>
    obtain ⟨-, hrun, hrep⟩ := at_stage (by simp [hq])
    have hnone := no_reports_at_msr hrep (.inl hq)
    subst ht
    exact reportsTrue_append_nonRead (x := ⟨.msrRd, .msrRead s.cfg.msrIndex, .value64 s.msr⟩) hs hrun (by simp)
      (by simp) (afterPart_seq_ne _ (by simp)) (by simp [Txn.ShowsEnabled, hv]) (by simp [Txn.ShowsWrite, hnone])
      (by simp [Txn.ShowsResolved]) (by simp [Txn.ShowsWrite, hrun])
  | msrToWrite _ hq _ _ hv ht =>
    obtain ⟨-, hrun, -⟩ := at_stage (by simp [hq])
    subst ht
    have hx : Txn.Silent ⟨.msrRd, .msrRead s.cfg.msrIndex, .value64 s.msr⟩ := by
      constructor <;> simp [Txn.ShowsEnabled, Txn.ShowsWrite, Txn.ShowsResolved, Txn.ShowsRead, hv]
    exact reportsTrue_append_silent hs hrun (by simp) hx (by simp) (by simp) (by simp) (by simp)
  | msrWritten _ hq _ _ ht =>
    obtain ⟨-, hrun, hrep⟩ := at_stage (by simp [hq])
    have hnone := no_reports_at_msr hrep (.inr hq)
    subst ht
    exact reportsTrue_append_nonRead (x := ⟨.msrWr, .msrWrite s.cfg.msrIndex (orMask s.msrin reqMask), .ok⟩) hs hrun
      (by simp) (by simp) (afterPart_seq_ne _ (by simp)) (by simp [Txn.ShowsEnabled, hnone]) (by simp [Txn.ShowsWrite])
      (by simp [Txn.ShowsResolved]) (by simp [Txn.ShowsWrite, hrun])
  | msrWriteErr _ hq _ _ ht =>
    obtain ⟨-, hrun, -⟩ := at_stage (by simp [hq])
    exact ht ▸ reportsTrue_raiseAccess hs hrun (by simp) (by simp)
  | resolved _ hq _ _ hv ht =>
    obtain ⟨-, hrun, -⟩ := at_stage (by simp [hq])
    subst ht
    exact reportsTrue_append_nonRead
      (x := ⟨.pciRd, .pciRead s.cfg.pciBus s.cfg.pciDev s.cfg.pciFn s.cfg.pciOff, .value32 s.pci⟩) hs hrun (by simp)
      (by simp) (afterPart_seq_ne _ (by simp)) (by simp [Txn.ShowsEnabled]) (by simp [Txn.ShowsWrite])
      (by simp [Txn.ShowsResolved, hv]) (by simp [Txn.ShowsWrite, hrun])
  | disabled _ hq _ _ hv ht =>
    obtain ⟨-, hrun, -⟩ := at_stage (by simp [hq])
    subst ht
    have hx : Txn.Silent ⟨.pciRd, .pciRead s.cfg.pciBus s.cfg.pciDev s.cfg.pciFn s.cfg.pciOff, .value32 s.pci⟩ := by
      constructor <;> simp [Txn.ShowsEnabled, Txn.ShowsWrite, Txn.ShowsResolved, Txn.ShowsRead, hv]
    exact reportsTrue_append_silent hs hrun (by simp) hx (by simp) (by simp) (by simp) (by simp)
  | lowRead any p hq _ _ ht =>
    obtain ⟨-, hrun, -⟩ := at_stage (by simp [hq])
    have htr : t.trace = s.trace ++ [⟨.mmioRdLo, .memRead s.addr, .value32 (memReadValue s.addr any s)⟩] := by simp [ht]
    have noHigh : ∀ y ∈ t.trace, y.stage ≠ .mmioRdHi := by
      intro y hy hyq
      obtain hy | rfl : y ∈ s.trace ∨ y = _ := by simpa [htr] using hy
      · have hlt := ho.earlier (by simp [hq]) hy
        simp [hyq, hq, Seq.code] at hlt
      · cases hyq
    subst ht
    exact reportsTrue_append hs hrun htr (by simp [Txn.ShowsEnabled]) (by simp [Txn.ShowsWrite])
      (by simp [Txn.ShowsResolved]) (by simp [hrun, Txn.ShowsWrite])
      (fun lo hi ⟨_, y, hy, hyq, _⟩ => absurd hyq (noHigh y hy)) (by simp [Txn.ShowsRead])
  | foundLocked any p hq hi₀ _ hv ht =>
    obtain ⟨hc, hrun, -⟩ := at_stage (by simp [hq])
    obtain ⟨hmmio, hmsr, hmch, htr, hcmd, hend⟩ := lockedOutcome_effect p s.tlo (memReadValue s.highAddr any s)
      { record .mmioRdHi (.memRead s.highAddr) (.value32 (memReadValue s.highAddr any s)) (dropDraw s) with
          mmioimg := joinWords (memReadValue s.highAddr any s) s.tlo }
    rw [← ht] at hmmio hmsr hmch htr hcmd hend
    have hpol : t.lpol = bitOfPolicy p := lpol_of_decode (by simpa [hcmd] using hc) hi₀
    exact reportsTrue_foundLocked hs ho hq hrun hpol hv (by simpa using htr) (by simpa using hmsr)
      (by simpa using hmch) hmmio hend
  | foundUnlocked any p hq _ _ hv ht =>
    obtain ⟨-, hrun, -⟩ := at_stage (by simp [hq])
    rw [unlockedPrepare] at ht
    subst ht
    have hx : Txn.Silent ⟨.mmioRdHi, .memRead s.highAddr, .value32 (memReadValue s.highAddr any s)⟩ := by
      constructor <;> simp [Txn.ShowsEnabled, Txn.ShowsWrite, Txn.ShowsResolved, Txn.ShowsRead, hv]
    exact reportsTrue_append_silent hs hrun (by simp) hx (by simp) (by simp) (by simp) (by simp)
  | lowWritten _ _ hq _ _ ht =>
    obtain ⟨-, hrun, -⟩ := at_stage (by simp [hq])
    subst ht
    have hx : Txn.Silent ⟨.mmioWrLo, .memWrite s.addr (lo32 s.newimg), .ok⟩ := by
      constructor <;> simp [Txn.ShowsEnabled, Txn.ShowsWrite, Txn.ShowsResolved, Txn.ShowsRead]
    exact reportsTrue_append_silent hs hrun (by simp) hx (by simp) (by simp) (by simp) (by simp)
  | lowWriteErr _ _ hq _ _ ht =>
    obtain ⟨-, hrun, -⟩ := at_stage (by simp [hq])
    exact ht ▸ reportsTrue_raiseAccess hs hrun (by simp) (by simp)
  | highWritten _ _ hq _ _ ht =>
    obtain ⟨-, hrun, -⟩ := at_stage (by simp [hq])
    subst ht
    exact reportsTrue_append_nonRead (x := ⟨.mmioWrHi, .memWrite s.highAddr (hi32 s.newimg), .ok⟩) hs hrun (by simp)
      (by simp) (by simp) (by simp [Txn.ShowsEnabled]) (by simp [Txn.ShowsWrite]) (by simp [Txn.ShowsResolved])
      (by simp [Txn.ShowsWrite])
  | highWriteErr _ _ hq _ _ ht =>
    obtain ⟨-, hrun, -⟩ := at_stage (by simp [hq])
    exact ht ▸ reportsTrue_raiseAccess hs hrun (by simp) (by simp)

theorem reportsTrue_reset : ReportsTrue State.reset :=
  reportsTrue_of_noTransactions rfl rfl rfl rfl (by decide)

/-- Settles O56: every other agent leaves the command in progress as it was, and the command's own step is
`exec_keeps_reportsTrue`. -/
theorem stepKeepsReportsTrue : Obligations.StepKeepsReportsTrue := by
  intro s t hi htr hs h
  cases step_commandStep h with
  | same h => exact hs.of_same h
  | dropped _ h =>
    have hwovr : ReportsTrue (setWovr s) := ⟨hs.alreadyEnabled, hs.written, hs.resolved, hs.writtenLocked,
      hs.limitsActive, hs.alreadyReconciled, hs.cannotMirror, hs.lowWord⟩
    exact hwovr.of_same h
  | reset h => exact reportsTrue_reset.of_same h
  | illegal w _ _ _ h =>
    exact (reportsTrue_of_noTransactions (t := acceptIllegal w s) rfl rfl rfl rfl (by simp [acceptIllegal])).of_same h
  | exec i s₀ h₀ running _ ht =>
    have hd₀ : s₀.busy = true → decode s₀.cmd = .ok i := by simpa [State.busy, h₀.cmd, h₀.seq] using running
    exact exec_keeps_reportsTrue (hi.of_same h₀) (htr.stagesIncrease.of_same h₀) (hs.of_same h₀) hd₀ ht

end Sys2Proof.Machine
end

section
/-! SUPPORT. Reset, where a command's meaning answers, the controller's turn, and the STATUS word. -/

namespace Sys2Proof.Machine

/-- Settles O50: RRC's registers are at rest, no transaction has been made, and no MMIO write is outstanding. -/
theorem resetMeetsTheInvariants : Obligations.ResetMeetsTheInvariants := by
  have idle : State.reset.busy ≠ true := by decide
  have notDone : State.reset.status.done ≠ true := by decide
  have noErr : State.reset.status.err = .none := rfl
  have noTransaction : ∀ x, x ∉ State.reset.trace := fun _ => List.not_mem_nil
  refine ⟨registerInv_reset, fun _ hdone => absurd hdone notDone, ?trace, ?avoid, reportsTrue_reset, ?window⟩
  case trace =>
    exact {
      running := fun hb => absurd hb idle
      completed := fun _ hdone => absurd hdone notDone
      accessError := by simp [noErr]
      baseDisabled := by simp [noErr]
      illegal := by simp [noErr]
      requests := ⟨0, fun hb => absurd hb idle, fun x hx => absurd hx (noTransaction x)⟩ }
  case avoid => exact fun ⟨x, hx, _⟩ => absurd hx (noTransaction x)
  case window => exact fun _ _ => ⟨by decide, by decide⟩

/-- The registers at their reset values read 0 (10_state.md R40). -/
theorem hostReadValue_of_reset {t : State} (h : SameRegisters State.reset t) (idx : BitVec 4) :
    hostReadValue idx t = 0 := by
  have hword : t.statusWord = State.reset.statusWord := by simp [State.statusWord, State.busy, h.status, h.seq]
  have hzero : ∀ reg, regRead t reg = 0 := by
    intro reg
    cases reg <;> simp only [regRead, hword, h.cmd, h.a, h.r, h.msrin, h.msrimg, h.cfgraw, h.base, h.addr, h.mmioimg,
      h.newimg] <;> rfl
  unfold hostReadValue
  split
  · exact hzero _
  · rfl

/-- Settles O41: power-on and a block reset leave the same registers, and those read 0. -/
theorem resetStateReadsZero : Obligations.ResetStateReadsZero := by
  intro s t ht
  have hregs : SameRegisters State.reset t := by rcases ht with rfl | rfl <;> constructor <;> rfl
  have hdevices : SameDevices s (blockReset false s) := by constructor <;> rfl
  refine ⟨hostReadValue_of_reset hregs, hregs.seq, hregs.status, ?_, ?_, ?_, ?_, ?_, hregs.tlo, hdevices⟩
  · simp only [State.statusWord, State.busy, hregs.seq, hregs.status]; rfl
  · simp only [State.lop, hregs.cmd]; rfl
  · simp only [State.lpol, hregs.cmd]; rfl
  · simp only [State.lx, hregs.cmd]; rfl
  · simp only [State.lbit, hregs.cmd]; rfl

/-! ### Where exec answers -/

/-- A command answers a next state at acceptance and at its own stages, and stops at every other stage (10_state.md
R36; log entry 9). -/
theorem exec_answers (i : Instr) (s : State) :
    (s.seq = .idle ∨ s.seq ∈ stagesOf i) ∧ (∃ t, exec i s = .next t) ∨
      ¬ (s.seq = .idle ∨ s.seq ∈ stagesOf i) ∧ exec i s = .fault .noStageRule := by
  cases i with
  | testf b => cases hq : s.seq <;> simp [exec, execTestf, stagesOf, hq]
  | withf b x => cases hq : s.seq <;> simp [exec, execWithf, stagesOf, hq]
  | msrrc => cases hq : s.seq <;> simp [exec, execMsrrc, stagesOf, hq]
  | mchrs => cases hq : s.seq <;> simp [exec, execMchrs, stagesOf, hq]
  | mmiorc p => cases hq : s.seq <;> simp [exec, execMmiorc, stagesOf, hq]
  | run p => cases hq : s.seq <;> simp [exec, execRun, stagesOf, hq]

/-- Settles O30: the two answers exclude each other. -/
theorem commandsStopOnlyOutsideTheirStages : Obligations.CommandsStopOnlyOutsideTheirStages := by
  intro i s
  rw [← not_or]
  obtain ⟨h, t, ht⟩ | ⟨h, hf⟩ := exec_answers i s
  · simp [ht, h]
  · simp [hf, h]

/-- A controller's turn while a command runs is that command's `exec` (10_state.md R36). -/
theorem controllerTurn_of_running {s : State} {i : Instr} (hd : decode s.cmd = .ok i) (hq : s.seq ≠ .idle) :
    controllerTurn s = exec i s := by
  simp [controllerTurn, (busy_iff s).mpr hq, hd]

/-- Settles O33: with a schedule its head is the controller, and with an empty one the controller moves while BUSY. -/
theorem stepRunsTheRunningCommand : Obligations.StepRunsTheRunningCommand := by
  refine ⟨fun s i hd hq => ⟨fun ts h => ?scheduled, fun h => ?unscheduled⟩, fun s ts hq h => ?idle⟩
  case scheduled => exact (step_of_turns_cons h).trans (controllerTurn_of_running hd hq)
  case unscheduled =>
    have hdrop : dropTurn s = s := by rw [dropTurn, h, List.tail_nil, ← h]
    have hturn : nextTurn s = .controller := by simp [nextTurn, h, (busy_iff s).mpr hq]
    rw [step, stepAgents, hturn, hdrop]
    exact controllerTurn_of_running hd hq
  case idle =>
    rw [step_of_turns_cons h]
    simp [takeTurn, controllerTurn, State.busy, hq]

/-! ### STATUS -/

/-- `State.statusWord` with its width written as the sum of its fields' widths, so that the lemmas on `++` apply. -/
def statusFields (s : State) : BitVec (4 + 4 + 2 + 1 + 3 + 2 + 4 + 4 + 3 + 1 + 1 + 1 + 1 + 1) :=
  (0 : BitVec 4) ++ s.seq.code ++ (0 : BitVec 2) ++ BitVec.ofBool s.status.mchOk ++ s.status.mmioRpt.code ++
    s.status.msrRpt.code ++ s.status.stage.code ++ s.status.err.code ++ (0 : BitVec 3) ++
    BitVec.ofBool s.status.wovr ++ BitVec.ofBool s.status.warn ++ BitVec.ofBool s.status.fatal ++
    BitVec.ofBool s.status.done ++ BitVec.ofBool s.busy

/-- The one-bit fields of STATUS. -/
theorem statusFields_bits (s : State) :
    (statusFields s).getLsbD 0 = s.busy ∧ (statusFields s).getLsbD 1 = s.status.done ∧
    (statusFields s).getLsbD 2 = s.status.fatal ∧ (statusFields s).getLsbD 3 = s.status.warn ∧
    (statusFields s).getLsbD 4 = s.status.wovr ∧ (statusFields s).getLsbD 21 = s.status.mchOk := by
  refine ⟨?_, ?_, ?_, ?_, ?_, ?_⟩ <;>
  · unfold statusFields
    repeat rw [BitVec.getLsbD_append]
    simp

/-- The wider fields of STATUS and its reserved bits: the fields below each are passed one by one. -/
theorem statusFields_codes (s : State) :
    (statusFields s).extractLsb' 5 3 = 0 ∧ (statusFields s).extractLsb' 8 4 = s.status.err.code ∧
    (statusFields s).extractLsb' 12 4 = s.status.stage.code ∧
    (statusFields s).extractLsb' 16 2 = s.status.msrRpt.code ∧
    (statusFields s).extractLsb' 18 3 = s.status.mmioRpt.code ∧ (statusFields s).extractLsb' 22 2 = 0 ∧
    (statusFields s).extractLsb' 24 4 = s.seq.code := by
  refine ⟨?_, ?_, ?_, ?_, ?_, ?_, ?_⟩ <;>
  · unfold statusFields
    repeat rw [BitVec.extractLsb'_append_eq_of_le (by decide)]
    exact BitVec.extractLsb'_append_eq_right

/-- The reserved bits at the top, with every field below. -/
theorem statusFields_top (s : State) : (statusFields s).extractLsb' 28 4 = 0 := by
  unfold statusFields
  repeat rw [BitVec.extractLsb'_append_eq_of_le (by decide)]
  rfl

/-- Settles O39: STATUS is the concatenation of its fields. -/
theorem statusWordLayout : Obligations.StatusWordLayout := by
  intro s
  obtain ⟨hbusy, hdone, hfatal, hwarn, hwovr, hmchOk⟩ := statusFields_bits s
  obtain ⟨hrsv5, herr, hstage, hmsr, hmmio, hrsv22, hseq⟩ := statusFields_codes s
  refine ⟨?busy, hdone, hfatal, hwarn, hwovr, hrsv5, herr.trans ?err, hstage.trans ?stage, hmsr.trans ?msr,
    hmmio.trans ?mmio, hmchOk, hrsv22, hseq.trans ?seq, statusFields_top s⟩
  case busy => exact (Bool.eq_iff_iff.mp hbusy).trans (busy_iff s)
  case err => cases s.status.err <;> rfl
  case stage => cases s.status.stage <;> rfl
  case msr => cases s.status.msrRpt <;> rfl
  case mmio => cases s.status.mmioRpt <;> rfl
  case seq => cases s.seq <;> rfl

end Sys2Proof.Machine
end

section
/-! SUPPORT. What a command's step leaves unchanged, by the stage SEQ names: one statement over every arm of
`exec_cases`, from which the frames of the parts and of the commands follow. -/

namespace Sys2Proof.Machine

/-- Which fields only some stages write (10_state.md R36 and section 6): each clause names the steps that may write. -/
structure StageFrame (i : Instr) (s t : State) : Prop where
  result   : stagesOf i ≠ [] → t.r = s.r
  msrRegs  : s.seq ≠ .msrRd → s.seq ≠ .msrWr → t.msrin = s.msrin ∧ t.msrimg = s.msrimg
  pciRegs  : s.seq ≠ .pciRd → t.cfgraw = s.cfgraw ∧ t.base = s.base ∧ t.addr = s.addr
  mmioRegs : s.seq ≠ .mmioRdLo → s.seq ≠ .mmioRdHi → t.tlo = s.tlo ∧ t.mmioimg = s.mmioimg ∧ t.newimg = s.newimg
  mirror   : s.seq ≠ .mmioWrLo → s.seq ≠ .mmioWrHi → t.mlo = s.mlo ∧ t.mhi = s.mhi ∧ t.stray = s.stray
  msrRpt   : s.seq ≠ .idle → s.seq ≠ .msrRd → s.seq ≠ .msrWr → t.status.msrRpt = s.status.msrRpt
  mchOk    : s.seq ≠ .idle → s.seq ≠ .pciRd → t.status.mchOk = s.status.mchOk
  mmioRpt  : s.seq ≠ .idle → s.seq ≠ .mmioRdHi → s.seq ≠ .mmioWrHi →
    t.status.mmioRpt = s.status.mmioRpt ∧ t.status.warn = s.status.warn

theorem exec_stageFrame {i : Instr} {s t : State} (h : exec i s = .next t) : StageFrame i s t := by
  cases exec_cases h with
  | codec hq hi r ht => subst ht; constructor <;> simp [hq, hi]
  | start hq _ _ ht => subst ht; constructor <;> simp [hq]
  | waiting _ _ ht => subst ht; constructor <;> simp
  | readErr _ _ _ _ _ ht => subst ht; constructor <;> simp
  | msrEnabled _ hq _ _ _ ht =>
    subst ht
    obtain ⟨e, _⟩ | ⟨e, _⟩ := afterPart_cases i .pciRd _ <;> rw [e] <;> constructor <;> simp [hq]
  | msrToWrite _ hq _ _ _ ht => subst ht; constructor <;> simp [hq]
  | msrWritten _ hq _ _ ht =>
    subst ht
    obtain ⟨e, _⟩ | ⟨e, _⟩ := afterPart_cases i .pciRd _ <;> rw [e] <;> constructor <;> simp [hq]
  | msrWriteErr _ hq _ _ ht => subst ht; constructor <;> simp [hq]
  | resolved _ hq _ _ _ ht =>
    subst ht
    obtain ⟨e, _⟩ | ⟨e, _⟩ := afterPart_cases i .mmioRdLo _ <;> rw [e] <;> constructor <;> simp [hq]
  | disabled _ hq _ _ _ ht => subst ht; constructor <;> simp [hq]
  | lowRead _ _ hq _ _ ht => subst ht; constructor <;> simp [hq]
  | foundLocked any p hq _ _ _ ht =>
    subst ht
    obtain ⟨_, e⟩ | ⟨_, _, e⟩ | ⟨_, _, e⟩ := lockedOutcome_cases p s.tlo (memReadValue s.highAddr any s) _ <;>
      rw [e] <;> constructor <;> simp [hq]
  | foundUnlocked _ _ hq _ _ _ ht => rw [unlockedPrepare] at ht; subst ht; constructor <;> simp [hq]
  | lowWritten _ _ hq _ _ ht => subst ht; constructor <;> simp [hq]
  | lowWriteErr _ _ hq _ _ ht => subst ht; constructor <;> simp [hq]
  | highWritten _ _ hq _ _ ht => subst ht; constructor <;> simp [hq]
  | highWriteErr _ _ hq _ _ ht => subst ht; constructor <;> simp [hq]

/-- A command that answers at a stage is one of the table's for that stage (10_state.md R36). -/
theorem mem_stagesOf_of_exec {i : Instr} {s t : State} (h : exec i s = .next t) (hq : s.seq ≠ .idle) :
    s.seq ∈ stagesOf i := by
  obtain ⟨hmem, -⟩ | ⟨-, hf⟩ := exec_answers i s
  · exact hmem.resolve_left hq
  · simp [hf] at h

theorem hasMsrPart_of_mem {i : Instr} {q : Seq} (h : q ∈ stagesOf i) (hq : q = .msrRd ∨ q = .msrWr) :
    i.hasMsrPart := by
  rcases hq with rfl | rfl <;> cases i <;> simp [stagesOf, Instr.hasMsrPart] at h ⊢

theorem hasPciPart_of_mem {i : Instr} (h : .pciRd ∈ stagesOf i) : i.hasPciPart := by
  cases i <;> simp [stagesOf, Instr.hasPciPart] at h ⊢

theorem hasMmioPart_of_mem {i : Instr} {q : Seq} (h : q ∈ stagesOf i)
    (hq : q = .mmioRdLo ∨ q = .mmioRdHi ∨ q = .mmioWrLo ∨ q = .mmioWrHi) : ∃ p, i.hasMmioPart p := by
  rcases hq with rfl | rfl | rfl | rfl <;> cases i <;> simp [stagesOf, Instr.hasMmioPart] at h ⊢

/-- Settles O16: the stage frame at MSR_RD and MSR_WR, and `exec_frame` for the rest. -/
theorem msrStagesFrame : Obligations.MsrStagesFrame := by
  intro i s t hq h
  have atOther : ∀ q : Seq, q ≠ .msrRd ∧ q ≠ .msrWr → s.seq ≠ q := fun q hne e =>
    hq.elim (fun hq => hne.1 (e ▸ hq)) (fun hq => hne.2 (e ▸ hq))
  have hidle : s.seq ≠ .idle := atOther _ (by decide)
  have hpciRd : s.seq ≠ .pciRd := atOther _ (by decide)
  have hrdLo : s.seq ≠ .mmioRdLo := atOther _ (by decide)
  have hrdHi : s.seq ≠ .mmioRdHi := atOther _ (by decide)
  have hwrLo : s.seq ≠ .mmioWrLo := atOther _ (by decide)
  have hwrHi : s.seq ≠ .mmioWrHi := atOther _ (by decide)
  have frame := exec_stageFrame h
  obtain ⟨hcfg, hpci, ha, hturns, hprogram, hrdData, hbusy, hmsr⟩ := exec_frame h
  obtain ⟨hcmd, hwovr, hcommanded⟩ := hbusy ((busy_iff s).mpr hidle)
  have hr := frame.result (List.ne_nil_of_mem (mem_stagesOf_of_exec h hidle))
  obtain ⟨hcfgraw, hbase, haddr⟩ := frame.pciRegs hpciRd
  obtain ⟨htlo, hmmioimg, hnewimg⟩ := frame.mmioRegs hrdLo hrdHi
  obtain ⟨hmlo, hmhi, hstray⟩ := frame.mirror hwrLo hwrHi
  obtain ⟨hmmioRpt, hwarn⟩ := frame.mmioRpt hidle hrdHi hwrHi
  have hwritten : t.msr = s.msr ∨ s.seq = .msrWr ∧ t.msr = orMask s.msrin reqMask :=
    (em (t.msr = s.msr)).imp id fun hne => (hmsr hne).2
  refine ⟨⟨hcmd, rfl, ha, hr, rfl, rfl, hcfgraw, hbase, haddr, hmmioimg, hnewimg, rfl, htlo⟩,
    ⟨hwovr.symm, hwarn.symm, hmmioRpt.symm, (frame.mchOk hidle hpciRd).symm⟩, ⟨rfl, hmlo, hmhi, hpci, hstray⟩,
    fun hrd => hwritten.resolve_right (by simp [hrd]), fun _ => hwritten.imp id fun hw => ?_,
    ⟨hprogram, hrdData, hturns, hcfg, hcommanded⟩, mirrorWord_congr hmlo hmhi hcfg⟩
  rw [hw.2, orMask, reqMask_eq]

/-- Settles O20: the stage frame at PCI_RD, and `exec_frame` for the rest. -/
theorem pciStageFrame : Obligations.PciStageFrame := by
  intro i s t hq h
  have frame := exec_stageFrame h
  have hidle : s.seq ≠ .idle := by simp [hq]
  obtain ⟨hcfg, hpci, ha, hturns, hprogram, hrdData, hbusy, hmsr⟩ := exec_frame h
  obtain ⟨hcmd, hwovr, hcommanded⟩ := hbusy ((busy_iff s).mpr hidle)
  have hr := frame.result (List.ne_nil_of_mem (mem_stagesOf_of_exec h hidle))
  obtain ⟨hmsrin, hmsrimg⟩ := frame.msrRegs (by simp [hq]) (by simp [hq])
  obtain ⟨htlo, hmmioimg, hnewimg⟩ := frame.mmioRegs (by simp [hq]) (by simp [hq])
  obtain ⟨hmlo, hmhi, hstray⟩ := frame.mirror (by simp [hq]) (by simp [hq])
  obtain ⟨hmmioRpt, hwarn⟩ := frame.mmioRpt hidle (by simp [hq]) (by simp [hq])
  have hmsrRpt := frame.msrRpt hidle (by simp [hq]) (by simp [hq])
  have hmsrKept : t.msr = s.msr := by simpa [hq] using hmsr
  exact ⟨⟨hcmd, rfl, ha, hr, hmsrin, hmsrimg, rfl, rfl, rfl, hmmioimg, hnewimg, rfl, htlo⟩,
    ⟨hwovr.symm, hwarn.symm, hmsrRpt.symm, hmmioRpt.symm⟩, ⟨hmsrKept, hmlo, hmhi, hpci, hstray⟩,
    ⟨hprogram, hrdData, hturns, hcfg, hcommanded⟩, mirrorWord_congr hmlo hmhi hcfg⟩

/-- Settles O48: a part's registers change only at its stages, and only the commands with that part have them. -/
theorem commandsWriteOnlyTheirRegisters : Obligations.CommandsWriteOnlyTheirRegisters := by
  intro i s t h
  have frame := exec_stageFrame h
  obtain ⟨-, -, ha, -, -, -, hbusy, hmsr⟩ := exec_frame h
  have ofStage : ∀ q, q ≠ .idle → s.seq = q → q ∈ stagesOf i := fun q hne hq =>
    hq ▸ mem_stagesOf_of_exec h (hq ▸ hne)
  refine ⟨ha, fun hb => ?running, fun htestf hwithf => ?result, fun hi => ?msr, fun hi => ?pci, fun hi => ?mmio⟩
  case running =>
    obtain ⟨hcmd, hwovr, -⟩ := hbusy hb
    exact ⟨hcmd, hwovr⟩
  case result => exact frame.result (by cases i <;> simp [stagesOf] at htestf hwithf ⊢)
  case msr =>
    have hrd : s.seq ≠ .msrRd := fun hq => hi (hasMsrPart_of_mem (ofStage _ (by simp) hq) (.inl rfl))
    have hwr : s.seq ≠ .msrWr := fun hq => hi (hasMsrPart_of_mem (ofStage _ (by simp) hq) (.inr rfl))
    obtain ⟨hmsrin, hmsrimg⟩ := frame.msrRegs hrd hwr
    exact ⟨hmsrin, hmsrimg, by_contra fun hne => hi (hmsr hne).1⟩
  case pci => exact frame.pciRegs fun hq => hi (hasPciPart_of_mem (ofStage _ (by simp) hq))
  case mmio =>
    have outside : ∀ q, (q = .mmioRdLo ∨ q = .mmioRdHi ∨ q = .mmioWrLo ∨ q = .mmioWrHi) → s.seq ≠ q := fun q hq e => by
      obtain ⟨p, hp⟩ := hasMmioPart_of_mem (ofStage q (by rcases hq with rfl | rfl | rfl | rfl <;> simp) e) hq
      exact hi p hp
    obtain ⟨htlo, hmmioimg, hnewimg⟩ := frame.mmioRegs (outside _ (by simp)) (outside _ (by simp))
    obtain ⟨hmlo, hmhi, hstray⟩ := frame.mirror (outside _ (by simp)) (outside _ (by simp))
    exact ⟨hmmioimg, hnewimg, htlo, hmlo, hmhi, hstray⟩

end Sys2Proof.Machine
end

section
/-! SUPPORT. The devices' side of a command's step: a stage without an answer, the two MMIO write stages by the device's
answer, the frame of the two read stages, and a mirror locked by a command or by another agent. -/

namespace Sys2Proof.Machine

/-! ### States with the same devices -/

theorem SameDevices.trans {s t u : State} (h : SameDevices s t) (h' : SameDevices t u) : SameDevices s u where
  msr := h'.msr.trans h.msr
  mlo := h'.mlo.trans h.mlo
  mhi := h'.mhi.trans h.mhi
  pci := h'.pci.trans h.pci
  stray := h'.stray.trans h.stray

theorem sameDevices_dropDraw (s : State) : SameDevices s (dropDraw s) := by constructor <;> simp

theorem Surrounded.sameDevices {s t : State} (h : Surrounded s t) : SameDevices s t := by
  rw [h]
  constructor <;> rfl

theorem Surrounded.cfg_eq {s t : State} (h : Surrounded s t) : t.cfg = s.cfg := by rw [h]

theorem sameDevices_performMsrWrite {s t : State} (v : Word64) (h : SameDevices s t) :
    SameDevices (performMsrWrite v s) (performMsrWrite v t) :=
  ⟨rfl, h.mlo, h.mhi, h.pci, h.stray⟩

/-- What a performed write does to the devices depends on the devices and the configuration alone. -/
theorem sameDevices_performMemWrite {s t : State} (addr : Word64) (w : Word32) (h : SameDevices s t)
    (hc : t.cfg = s.cfg) : SameDevices (performMemWrite addr w s) (performMemWrite addr w t) := by
  have hlock : t.locked = s.locked := locked_congr h.mhi
  obtain ⟨hmsr, hmlo, hmhi, hpci, hstray⟩ := h
  unfold performMemWrite
  rw [hc, hlock]
  constructor <;> split_ifs <;> simp [*]

/-! ### The hang -/

/-- At each of a command's stages, a device that does not answer costs a draw and nothing else (20_memory.md R65): a
command's other steps are its acceptance and those with an answer. -/
theorem exec_noAnswer {i : Instr} {s : State} (hq : s.seq ∈ stagesOf i) (hd : nextDraw s = .noAnswer) :
    exec i s = .next (dropDraw s) := by
  obtain ⟨-, t, ht⟩ | ⟨hno, -⟩ := exec_answers i s
  · cases exec_cases ht with
    | waiting _ _ hdrop => rw [ht, hdrop]
    | codec hidle | start hidle => exact absurd (hidle ▸ hq) (idle_notMem_stagesOf i)
    | _ => simp_all only [reduceCtorEq]
  · exact absurd (.inr hq) hno

/-- Settles O31: the step is `exec_noAnswer`, and a draw taken is in none of the fields named. -/
theorem noAnswerLeavesTheStage : Obligations.NoAnswerLeavesTheStage := by
  intro i s hq _ hd
  refine ⟨dropDraw s, exec_noAnswer hq hd, ?_, sameDevices_dropDraw s, ?_, by simp⟩ <;> constructor <;> simp

/-! ### The two MMIO write stages -/

theorem exec_mmioWrLo_ok {i : Instr} {p : Policy} {s : State} {any : Word32} (hi : i.hasMmioPart p)
    (hq : s.seq = .mmioWrLo) (hd : nextDraw s = .ok any) :
    exec i s = .next (goto .mmioWrHi (record .mmioWrLo (.memWrite s.addr (lo32 s.newimg)) .ok
      (performMemWrite s.addr (lo32 s.newimg) (dropDraw s)))) := by
  obtain rfl | rfl := hi <;> simp [exec, execMmiorc, execRun, hq, stageMmioWrLo, memWrite_ok _ _ _ hd]

theorem exec_mmioWrLo_err {i : Instr} {p : Policy} {s : State} {landed : Bool} (hi : i.hasMmioPart p)
    (hq : s.seq = .mmioWrLo) (hd : nextDraw s = .err landed) :
    exec i s = .next (raiseAccess .mmioWrLo (record .mmioWrLo (.memWrite s.addr (lo32 s.newimg)) .err
      (landMemWrite landed s.addr (lo32 s.newimg) (dropDraw s)))) := by
  obtain rfl | rfl := hi <;> simp [exec, execMmiorc, execRun, hq, stageMmioWrLo, memWrite_err _ _ _ hd]

theorem exec_mmioWrHi_ok {i : Instr} {p : Policy} {s : State} {any : Word32} (hi : i.hasMmioPart p)
    (hq : s.seq = .mmioWrHi) (hd : nextDraw s = .ok any) :
    exec i s = .next (complete (setMmioReport .writtenLocked
      (record .mmioWrHi (.memWrite s.highAddr (hi32 s.newimg)) .ok
        (performMemWrite s.highAddr (hi32 s.newimg) (dropDraw s))))) := by
  obtain rfl | rfl := hi <;> simp [exec, execMmiorc, execRun, hq, stageMmioWrHi, memWrite_ok _ _ _ hd]

theorem exec_mmioWrHi_err {i : Instr} {p : Policy} {s : State} {landed : Bool} (hi : i.hasMmioPart p)
    (hq : s.seq = .mmioWrHi) (hd : nextDraw s = .err landed) :
    exec i s = .next (raiseAccess .mmioWrHi (record .mmioWrHi (.memWrite s.highAddr (hi32 s.newimg)) .err
      (landMemWrite landed s.highAddr (hi32 s.newimg) (dropDraw s)))) := by
  obtain rfl | rfl := hi <;> simp [exec, execMmiorc, execRun, hq, stageMmioWrHi, memWrite_err _ _ _ hd]

/-- The write the stage SEQ names issues: its address and its word (44_mmio_reconcile.md R169, R170). -/
def WriteIssued (s : State) (addr : Word64) (w : Word32) : Prop :=
  s.seq = .mmioWrLo ∧ addr = s.addr ∧ w = lo32 s.newimg ∨
    s.seq = .mmioWrHi ∧ addr = s.highAddr ∧ w = hi32 s.newimg

theorem WriteIssued.seq_eq {s : State} {addr : Word64} {w : Word32} (h : WriteIssued s addr w) :
    s.seq = .mmioWrLo ∨ s.seq = .mmioWrHi := h.imp And.left And.left

/-- What the devices make of a write of `w` at `addr`, from `s` to `t`. -/
inductive WriteOutcome (addr : Word64) (w : Word32) (s t : State) : Prop where
  /-- The device has not answered. -/
  | waiting (hd : nextDraw s = .noAnswer) (h : SameDevices s t)
  /-- The write is performed: it answered `ok`, or erred with effect, or missed the mirror. -/
  | performed (hd : (∃ any, nextDraw s = .ok any) ∨
        ∃ landed, nextDraw s = .err landed ∧ (landed = true ∨ s.hitsMirror addr = false))
      (h : SameDevices (performMemWrite addr w s) t)
      (hreq : ∃ x, t.trace.getLast? = some x ∧ x.req = .memWrite addr w)
  /-- The write erred at the mirror without effect. -/
  | failed (hd : nextDraw s = .err false) (hm : s.hitsMirror addr = true) (h : SameDevices s t)

/-- The write that answered `ok`, in a state `t` that differs only in RRC's registers. -/
theorem writeOutcome_ok {q : Seq} {addr : Word64} {w any : Word32} {s t : State} (hd : nextDraw s = .ok any)
    (h : SameDevices (performMemWrite addr w (dropDraw s)) t)
    (htr : t.trace = s.trace ++ [⟨q, .memWrite addr w, .ok⟩]) : WriteOutcome addr w s t :=
  .performed (.inl ⟨any, hd⟩) ((sameDevices_performMemWrite addr w (sameDevices_dropDraw s) (by simp)).trans h)
    ⟨_, by rw [htr, List.getLast?_concat], rfl⟩

/-- The write that erred, as `writeOutcome_ok` (20_memory.md R58, R60). -/
theorem writeOutcome_err {q : Seq} {addr : Word64} {w : Word32} {landed : Bool} {s t : State}
    (hd : nextDraw s = .err landed) (h : SameDevices (landMemWrite landed addr w (dropDraw s)) t)
    (htr : t.trace = s.trace ++ [⟨q, .memWrite addr w, .err⟩]) : WriteOutcome addr w s t := by
  have hhits : (dropDraw s).hitsMirror addr = s.hitsMirror addr := by simp [State.hitsMirror]
  obtain ⟨hland, e⟩ | ⟨rfl, hm, e⟩ := landMemWrite_cases landed addr w (dropDraw s) <;> rw [e] at h
  · exact .performed (.inr ⟨landed, hd, hhits ▸ hland⟩)
      ((sameDevices_performMemWrite addr w (sameDevices_dropDraw s) (by simp)).trans h)
      ⟨_, by rw [htr, List.getLast?_concat], rfl⟩
  · exact .failed hd (hhits ▸ hm) ((sameDevices_dropDraw s).trans h)

/-- Everything an MMIO write stage can do to the devices. -/
theorem exec_writeOutcome {i : Instr} {s t : State} {addr : Word64} {w : Word32} (hw : WriteIssued s addr w)
    (h : exec i s = .next t) : WriteOutcome addr w s t := by
  have hseq := hw.seq_eq
  have hmem : s.seq ∈ stagesOf i := mem_stagesOf_of_exec h (by rcases hseq with hq | hq <;> simp [hq])
  obtain ⟨p, hi⟩ := hasMmioPart_of_mem hmem (.inr (.inr hseq))
  cases hd : nextDraw s with
  | noAnswer =>
    rw [exec_noAnswer hmem hd] at h
    cases h
    exact .waiting hd (sameDevices_dropDraw s)
  | ok any =>
    obtain ⟨hq, rfl, rfl⟩ | ⟨hq, rfl, rfl⟩ := hw
    · rw [exec_mmioWrLo_ok hi hq hd] at h
      cases h
      exact writeOutcome_ok (q := .mmioWrLo) hd (by constructor <;> rfl) (by simp)
    · rw [exec_mmioWrHi_ok hi hq hd] at h
      cases h
      exact writeOutcome_ok (q := .mmioWrHi) hd (by constructor <;> rfl) (by simp)
  | err landed =>
    obtain ⟨hq, rfl, rfl⟩ | ⟨hq, rfl, rfl⟩ := hw
    · rw [exec_mmioWrLo_err hi hq hd] at h
      cases h
      exact writeOutcome_err (q := .mmioWrLo) hd (by constructor <;> rfl) (by simp)
    · rw [exec_mmioWrHi_err hi hq hd] at h
      cases h
      exact writeOutcome_err (q := .mmioWrHi) hd (by constructor <;> rfl) (by simp)

/-- A running command's step leaves the host, the schedule and the configuration as they were (10_state.md R36). -/
theorem exec_sameSurroundings {i : Instr} {s t : State} (h : exec i s = .next t) (hq : s.seq ≠ .idle) :
    SameSurroundings s t := by
  obtain ⟨hcfg, -, -, hturns, hprogram, hrdData, hbusy, -⟩ := exec_frame h
  obtain ⟨-, -, hcommanded⟩ := hbusy ((busy_iff s).mpr hq)
  exact ⟨hprogram, hrdData, hturns, hcfg, hcommanded⟩

/-- Settles O25: the three outcomes of the stage's write, and at the mirror the two of its LOCK. -/
theorem mmioWriteStagesOnTheDevices : Obligations.MmioWriteStagesOnTheDevices := by
  intro i s t addr w hw h
  have hseq := WriteIssued.seq_eq hw
  have hidle : s.seq ≠ .idle := by rcases hseq with hq | hq <;> simp [hq]
  have hmsrWr : s.seq ≠ .msrWr := by rcases hseq with hq | hq <;> simp [hq]
  obtain ⟨hcfg, hpci, -, -, -, -, -, hmsr⟩ := exec_frame h
  have hmsrKept : t.msr = s.msr := by_contra fun hne => hmsrWr (hmsr hne).2.1
  have hits : ∀ old, s.mirrorWord addr = some old → s.hitsMirror addr ≠ false := fun old hold hm => by
    simp [(mirrorWord_none_iff s addr).mpr hm] at hold
  have hsurr := exec_sameSurroundings h hidle
  cases exec_writeOutcome hw h with
  | waiting hd hdev =>
    have hword := mirrorWord_congr hdev.mlo hdev.mhi hcfg
    exact ⟨fun other _ => hword other, fun _ => ⟨hdev.mlo, hdev.mhi, by simp [hd, hdev.stray]⟩,
      fun old hold => ⟨hdev.stray, by simp [hd, hword, hold]⟩, hmsrKept, hpci, hsurr⟩
  | performed hd hdev _ =>
    have hword := mirrorWord_congr hdev.mlo hdev.mhi (by simpa using hcfg)
    have hanswered : nextDraw s ≠ .noAnswer := by obtain ⟨_, hd⟩ | ⟨_, hd, -⟩ := hd <;> simp [hd]
    refine ⟨fun other hne => ?other, fun hnone => ?miss, fun old hold => ?hit, hmsrKept, hpci, hsurr⟩
    case other => rw [hword, performMemWrite_mirrorWord_other addr other w s hne]
    case miss =>
      have e := performMemWrite_stray addr w s hnone
      rw [hdev.mlo, hdev.mhi, hdev.stray, if_neg hanswered, e]
      exact ⟨rfl, rfl, rfl⟩
    case hit =>
      have hlanded : (∃ any, nextDraw s = .ok any) ∨ nextDraw s = .err true := by
        obtain hok | ⟨landed, herr, hland⟩ := hd
        · exact .inl hok
        · exact .inr (hland.resolve_right (hits old hold) ▸ herr)
      obtain ⟨hstray, hnew⟩ := performMemWrite_mirrorWord_same addr w old s hold
      refine ⟨hdev.stray.trans hstray, ?_⟩
      rw [hword, hnew]
      cases s.locked <;> simp [hlanded]
  | failed hd hm hdev =>
    have hword := mirrorWord_congr hdev.mlo hdev.mhi hcfg
    refine ⟨fun other _ => hword other, fun hnone => ?miss, fun old hold => ?hit, hmsrKept, hpci, hsurr⟩
    case miss => simp [(mirrorWord_none_iff s addr).mp hnone] at hm
    case hit => exact ⟨hdev.stray, by simp [hd, hword, hold]⟩

/-! ### The two MMIO read stages -/

/-- Settles O26: the stage frame at MMIO_RD_LO and MMIO_RD_HI, and `exec_frame` for the rest. -/
theorem mmioReadStagesFrame : Obligations.MmioReadStagesFrame := by
  intro i s t hq h
  have atOther : ∀ q : Seq, q ≠ .mmioRdLo ∧ q ≠ .mmioRdHi → s.seq ≠ q := fun q hne e =>
    hq.elim (fun hq => hne.1 (e ▸ hq)) (fun hq => hne.2 (e ▸ hq))
  have hidle : s.seq ≠ .idle := atOther _ (by decide)
  have hmsrRd : s.seq ≠ .msrRd := atOther _ (by decide)
  have hmsrWr : s.seq ≠ .msrWr := atOther _ (by decide)
  have hpciRd : s.seq ≠ .pciRd := atOther _ (by decide)
  have frame := exec_stageFrame h
  obtain ⟨hcfg, hpci, ha, -, -, -, hbusy, hmsr⟩ := exec_frame h
  obtain ⟨hcmd, hwovr, -⟩ := hbusy ((busy_iff s).mpr hidle)
  have hr := frame.result (List.ne_nil_of_mem (mem_stagesOf_of_exec h hidle))
  have hmsrKept : t.msr = s.msr := by_contra fun hne => hmsrWr (hmsr hne).2.1
  obtain ⟨hmsrin, hmsrimg⟩ := frame.msrRegs hmsrRd hmsrWr
  obtain ⟨hcfgraw, hbase, haddr⟩ := frame.pciRegs hpciRd
  obtain ⟨hmlo, hmhi, hstray⟩ := frame.mirror (atOther _ (by decide)) (atOther _ (by decide))
  exact ⟨⟨hcmd, rfl, ha, hr, hmsrin, hmsrimg, hcfgraw, hbase, haddr, rfl, rfl, rfl, rfl⟩,
    ⟨hwovr.symm, (frame.msrRpt hidle hmsrRd hmsrWr).symm, (frame.mchOk hidle hpciRd).symm⟩,
    ⟨hmsrKept, hmlo, hmhi, hpci, hstray⟩, exec_sameSurroundings h hidle, mirrorWord_congr hmlo hmhi hcfg⟩

/-! ### Who locks the mirror, and a mirror locked by another -/

/-- Settles O46: LOCK is a bit of the HIGH word, which only a performed write at its address changes. -/
theorem onlyAHighWriteLocks : Obligations.OnlyAHighWriteLocks := by
  intro i s t h hunlocked hlocked
  have kept : t.mhi ≠ s.mhi := fun e => by simp [locked_congr e, hunlocked] at hlocked
  have issued : ∃ addr w, WriteIssued s addr w := by
    by_contra hnone
    push Not at hnone
    have hlo : s.seq ≠ .mmioWrLo := fun hq => hnone _ _ (.inl ⟨hq, rfl, rfl⟩)
    have hhi : s.seq ≠ .mmioWrHi := fun hq => hnone _ _ (.inr ⟨hq, rfl, rfl⟩)
    exact kept ((exec_stageFrame h).mirror hlo hhi).2.1
  obtain ⟨addr, w, hw⟩ := issued
  cases exec_writeOutcome hw h with
  | waiting _ hdev => exact absurd hdev.mhi kept
  | failed _ _ hdev => exact absurd hdev.mhi kept
  | performed _ hdev hreq =>
    have hmhi := hdev.mhi
    obtain ⟨x, hlast, hx⟩ := hreq
    obtain ⟨_, _, e⟩ | ⟨rfl, _, e⟩ | ⟨_, _, e⟩ | ⟨_, e⟩ := performMemWrite_cases addr w s <;> rw [e] at hmhi
    · exact absurd hmhi kept
    · exact ⟨w, x, hlast, hx, by rw [← hlocked, locked_eq, hmhi], hmhi⟩
    · exact absurd hmhi kept
    · exact absurd hmhi kept

theorem decode_of_command {s : State} {i : Instr} (h : s.command = some i) : decode s.cmd = .ok i := by
  unfold State.command at h
  split at h
  · next hd => exact hd.trans (congrArg Except.ok (Option.some.inj h))
  · cases h

/-- With no schedule, one more step of a run while a command runs is that command's (10_state.md R36). -/
theorem run_succ_of_exec {s t : State} {i : Instr} (k : Nat) (hc : s.command = some i) (hq : s.seq ≠ .idle)
    (hturns : s.turns = []) (h : exec i s = .next t) : Host.Core.run core (k + 1) s = Host.Core.run core k t := by
  have hstep : core.step s = .next t :=
    ((stepRunsTheRunningCommand.1 s i (decode_of_command hc) hq).2 hturns).trans h
  simp only [Host.Core.run, hstep]

/-- Settles O29: both writes are performed and rejected, and RRC sees two `ok` answers (20_memory.md R61, R71). -/
theorem externalLockGoesUnnoticed : Obligations.ExternalLockGoesUnnoticed := by
  intro i p s w₁ w₂ ds hi hc hq hturns _ hdraws _ hlocked
  have hlow := exec_mmioWrLo_ok hi hq (nextDraw_cons hdraws)
  obtain ⟨hmlo, hmhi⟩ := performMemWrite_locked s.addr (lo32 s.newimg) (dropDraw s)
    (by simpa [State.locked] using hlocked)
  generalize ht₁ : goto .mmioWrHi (record .mmioWrLo (.memWrite s.addr (lo32 s.newimg)) .ok
    (performMemWrite s.addr (lo32 s.newimg) (dropDraw s))) = t₁ at hlow
  have hc₁ : t₁.command = some i := by simpa [State.command, ← ht₁] using hc
  have hq₁ : t₁.seq = .mmioWrHi := by simp [← ht₁]
  have hturns₁ : t₁.turns = [] := by simp [← ht₁, hturns]
  have hdraws₁ : t₁.draws = .ok w₂ :: ds := by simp [← ht₁, hdraws]
  have hmlo₁ : t₁.mlo = s.mlo := by simpa [← ht₁] using hmlo
  have hmhi₁ : t₁.mhi = s.mhi := by simpa [← ht₁] using hmhi
  have hhigh := exec_mmioWrHi_ok hi hq₁ (nextDraw_cons hdraws₁)
  obtain ⟨hmlo₂, hmhi₂⟩ := performMemWrite_locked t₁.highAddr (hi32 t₁.newimg) (dropDraw t₁)
    (by simpa [State.locked, hmhi₁] using hlocked)
  have hrun := (run_succ_of_exec 1 hc (by simp [hq]) hturns hlow).trans
    (run_succ_of_exec 0 hc₁ (by simp [hq₁]) hturns₁ hhigh)
  refine ⟨_, hrun, rfl, rfl, ?_, ?_⟩
  · simpa [hmlo₁] using hmlo₂
  · simpa [hmhi₁] using hmhi₂

end Sys2Proof.Machine
end

section
/-! SUPPORT. A step, seen by the target devices: which device a turn can write and whose turn it then is, said once, so
that a claim about a device has one case for each device and none for each agent. -/

namespace Sys2Proof.Machine

/-! ### Commands and resets -/

/-- What a command's step can do to the devices: one write, at the stage that issues it (20_memory.md R67). -/
theorem exec_devices {i : Instr} {s t : State} (h : exec i s = .next t) :
    SameDevices s t ∨ (s.seq = .msrWr ∧ SameDevices (performMsrWrite (orMask s.msrin reqMask) s) t) ∨
      ∃ addr w, WriteIssued s addr w ∧ SameDevices (performMemWrite addr w s) t := by
  by_cases hw : ∃ addr w, WriteIssued s addr w
  · obtain ⟨addr, w, hw⟩ := hw
    cases exec_writeOutcome hw h with
    | waiting _ hdev => exact .inl hdev
    | performed _ hdev _ => exact .inr (.inr ⟨addr, w, hw, hdev⟩)
    | failed _ _ hdev => exact .inl hdev
  · have hlo : s.seq ≠ .mmioWrLo := fun hq => hw ⟨_, _, .inl ⟨hq, rfl, rfl⟩⟩
    have hhi : s.seq ≠ .mmioWrHi := fun hq => hw ⟨_, _, .inr ⟨hq, rfl, rfl⟩⟩
    obtain ⟨hmlo, hmhi, hstray⟩ := (exec_stageFrame h).mirror hlo hhi
    obtain ⟨-, hpci, -, -, -, -, -, hmsr⟩ := exec_frame h
    by_cases hkept : t.msr = s.msr
    · exact .inl ⟨hkept, hmlo, hmhi, hpci, hstray⟩
    · obtain ⟨-, hq, hnew⟩ := hmsr hkept
      exact .inr (.inl ⟨hq, hnew, hmlo, hmhi, hpci, hstray⟩)

/-- A command's acceptance writes no device. -/
theorem exec_devices_of_idle {i : Instr} {s t : State} (h : exec i s = .next t) (hq : s.seq = .idle) :
    SameDevices s t := by
  obtain hdev | ⟨hwr, -⟩ | ⟨addr, w, hw, -⟩ := exec_devices h
  · exact hdev
  · simp [hq] at hwr
  · simp [WriteIssued, hq] at hw

theorem sameDevices_blockReset (landed : Bool) (s : State) :
    SameDevices (if landed then landOutstandingWrite s else s) (blockReset landed s) := by
  constructor <;> rfl

theorem blockReset_cfg (landed : Bool) (s : State) : (blockReset landed s).cfg = s.cfg := by
  obtain ⟨-, -, hcfg, -⟩ := landOutstandingWrite_frame s
  cases landed
  · rfl
  · exact hcfg

/-- The write a reset abandons, where the device performed it, is the one the stage SEQ names issues
(70_reset_and_hazards.md R240). -/
theorem landOutstandingWrite_devices (s : State) :
    landOutstandingWrite s = s ∨
      (s.seq = .msrWr ∧ landOutstandingWrite s = performMsrWrite (orMask s.msrin reqMask) s) ∨
      ∃ addr w, WriteIssued s addr w ∧ landOutstandingWrite s = performMemWrite addr w s := by
  obtain ⟨hq, e⟩ | ⟨hq, e⟩ | ⟨hq, e⟩ | ⟨-, e⟩ := landOutstandingWrite_cases s
  · exact .inr (.inl ⟨hq, e⟩)
  · exact .inr (.inr ⟨_, _, .inl ⟨hq, rfl, rfl⟩, e⟩)
  · exact .inr (.inr ⟨_, _, .inr ⟨hq, rfl, rfl⟩, e⟩)
  · exact .inl e

/-! ### Every turn, by the device it writes -/

/-- Whose turn it is when the next step writes `v` to the MSR: the controller at MSR_WR, the external writer, firmware
before the first command, or a reset that abandons the controller's write. -/
def MsrWriter (s : State) (v : Word64) : Prop :=
  (nextTurn s = .controller ∧ s.seq = .msrWr ∧ v = orMask s.msrin reqMask) ∨
  (s.cfg.extWriters = true ∧ ∃ v, nextTurn s = .extMsrWrite v) ∨
  (s.commanded = false ∧ s.busy = false ∧ ∃ v, nextTurn s = .firmwareMsrWrite v) ∨
  (nextTurn s = .blockReset true ∧ s.seq = .msrWr)

/-- Whose turn it is when the next step writes a memory word, as `MsrWriter`. -/
def MirrorWriter (s : State) : Prop :=
  (nextTurn s = .controller ∧ (s.seq = .mmioWrLo ∨ s.seq = .mmioWrHi)) ∨
  (s.cfg.extWriters = true ∧ ∃ high w, nextTurn s = .extMirrorWrite high w) ∨
  (s.commanded = false ∧ s.busy = false ∧ ∃ high w, nextTurn s = .firmwareMirrorWrite high w) ∨
  (nextTurn s = .blockReset true ∧ (s.seq = .mmioWrLo ∨ s.seq = .mmioWrHi))

/-- What a step does to the devices: at most one write of one of them, but for power-on. -/
inductive DeviceStep (s t : State) : Prop where
  /-- No device changes. -/
  | same (h : SameDevices s t)
  /-- The MSR is written. -/
  | msrWrite (v : Word64) (hby : MsrWriter s v) (h : SameDevices (performMsrWrite v s) t)
  /-- A memory word is written, under the mirror's LOCK. -/
  | memWrite (addr : Word64) (w : Word32) (hby : MirrorWriter s) (h : SameDevices (performMemWrite addr w s) t)
  /-- The platform changes the PCI dword. -/
  | pciChange (d : Word32) (hb : s.busy = false) (hturn : nextTurn s = .platformPci d) (hmsr : t.msr = s.msr)
      (hmlo : t.mlo = s.mlo) (hmhi : t.mhi = s.mhi)
  /-- Power-on. -/
  | power (landed : Bool) (msr : Word64) (mlo mhi pci : Word32)
      (hturn : nextTurn s = .powerOn landed msr mlo mhi pci)

theorem sameDevices_dropTurn (s : State) : SameDevices s (dropTurn s) := (surrounded_dropTurn s).sameDevices

/-- A write performed after the turn is taken off the schedule, on the devices as they were before. -/
theorem sameDevices_performMemWrite_dropTurn (addr : Word64) (w : Word32) (s : State) :
    SameDevices (performMemWrite addr w s) (performMemWrite addr w (dropTurn s)) :=
  sameDevices_performMemWrite addr w (sameDevices_dropTurn s) rfl

/-- The running command's step, on the devices. -/
theorem deviceStep_of_exec {i : Instr} {s s₀ t : State} (h₀ : Surrounded s s₀) (hturn : nextTurn s = .controller)
    (ht : exec i s₀ = .next t) : DeviceStep s t := by
  obtain hdev | ⟨hq, hdev⟩ | ⟨addr, w, hw, hdev⟩ := exec_devices ht
  · exact .same (h₀.sameDevices.trans hdev)
  · rw [h₀.seq_eq] at hq
    have hmsrin : s₀.msrin = s.msrin := by rw [h₀]
    rw [hmsrin] at hdev
    exact .msrWrite _ (.inl ⟨hturn, hq, rfl⟩) ((sameDevices_performMsrWrite _ h₀.sameDevices).trans hdev)
  · exact .memWrite addr w (.inl ⟨hturn, h₀.seq_eq ▸ hw.seq_eq⟩)
      ((sameDevices_performMemWrite addr w h₀.sameDevices h₀.cfg_eq).trans hdev)

/-- A block reset, on the devices (70_reset_and_hazards.md R240, R241). -/
theorem deviceStep_of_blockReset {landed : Bool} {s : State} (hturn : nextTurn s = .blockReset landed) :
    DeviceStep s (blockReset landed (dropTurn s)) := by
  have hreset := sameDevices_blockReset landed (dropTurn s)
  cases landed with
  | false => exact .same ((sameDevices_dropTurn s).trans hreset)
  | true =>
    rw [if_pos rfl] at hreset
    obtain e | ⟨hq, e⟩ | ⟨addr, w, hw, e⟩ := landOutstandingWrite_devices (dropTurn s) <;> rw [e] at hreset
    · exact .same ((sameDevices_dropTurn s).trans hreset)
    · exact .msrWrite _ (.inr (.inr (.inr ⟨hturn, hq⟩)))
        ((sameDevices_performMsrWrite _ (sameDevices_dropTurn s)).trans hreset)
    · exact .memWrite addr w (.inr (.inr (.inr ⟨hturn, hw.seq_eq⟩)))
        ((sameDevices_performMemWrite_dropTurn addr w s).trans hreset)

/-- Another agent's MSR write, made only where it may write. -/
theorem deviceStep_of_guardedMsr {s : State} {mayWrite : Prop} [Decidable mayWrite] (v : Word64)
    (hby : mayWrite → MsrWriter s v) :
    DeviceStep s (if mayWrite then performMsrWrite v (dropTurn s) else dropTurn s) := by
  split_ifs with hmay
  · exact .msrWrite v (hby hmay) (sameDevices_performMsrWrite v (sameDevices_dropTurn s))
  · exact .same (sameDevices_dropTurn s)

/-- Another agent's mirror write, made only where it may write. -/
theorem deviceStep_of_guardedMirror {s : State} {mayWrite : Prop} [Decidable mayWrite] (high : Bool) (w : Word32)
    (hby : mayWrite → MirrorWriter s) :
    DeviceStep s (if mayWrite then performMirrorWrite high w (dropTurn s) else dropTurn s) := by
  split_ifs with hmay
  · exact .memWrite _ w (hby hmay) (sameDevices_performMemWrite_dropTurn _ w s)
  · exact .same (sameDevices_dropTurn s)

theorem deviceStep_of_platformPci {s : State} {d : Word32} (hturn : nextTurn s = .platformPci d) :
    DeviceStep s (platformPci d (dropTurn s)) := by
  unfold platformPci
  split_ifs with hb
  · exact .same (sameDevices_dropTurn s)
  · exact .pciChange d (by simpa [State.busy] using hb) hturn rfl rfl rfl

/-- Everything a step does to the devices; no step changes the configuration (00_scope.md R5, R8). -/
theorem step_deviceStep {s t : State} (h : step s = .next t) : t.cfg = s.cfg ∧ DeviceStep s t := by
  cases step_cases h with
  | quiet h₀ => exact ⟨h₀.cfg_eq, .same h₀.sameDevices⟩
  | stage i s₀ h₀ hturn _ _ ht =>
    obtain ⟨hcfg, -⟩ := exec_frame ht
    exact ⟨hcfg.trans h₀.cfg_eq, deviceStep_of_exec h₀ hturn ht⟩
  | issue i w s₀ h₀ hb _ ht =>
    obtain ⟨hcfg, -⟩ := exec_frame ht
    have hq : s₀.seq = .idle := h₀.seq_eq.trans ((not_busy_iff s).mp hb)
    exact ⟨hcfg.trans h₀.cfg_eq, .same (h₀.sameDevices.trans (exec_devices_of_idle ht hq))⟩
  | illegal _ _ s₀ h₀ _ _ ht | dropped s₀ h₀ _ ht | hostData s₀ h₀ _ _ _ _ ht =>
    subst ht
    exact ⟨h₀.cfg_eq, .same (h₀.sameDevices.trans (by constructor <;> rfl))⟩
  | reset landed hturn ht => exact ht ▸ ⟨blockReset_cfg landed _, deviceStep_of_blockReset hturn⟩
  | power landed msr mlo mhi pci hturn ht => exact ht ▸ ⟨blockReset_cfg landed _, .power landed msr mlo mhi pci hturn⟩
  | extMsr v hturn ht =>
    obtain ⟨e, -⟩ := otherWrite_cases v false 0 (dropTurn s)
    rw [ht, e]
    exact ⟨by split_ifs <;> rfl, deviceStep_of_guardedMsr v fun hmay => .inr (.inl ⟨hmay, v, hturn⟩)⟩
  | extMirror high w hturn ht =>
    obtain ⟨-, e, -⟩ := otherWrite_cases 0 high w (dropTurn s)
    rw [ht, e]
    exact ⟨by split_ifs <;> simp [performMirrorWrite],
      deviceStep_of_guardedMirror high w fun hmay => .inr (.inl ⟨hmay, high, w, hturn⟩)⟩
  | firmwareMsr v hturn ht =>
    obtain ⟨-, -, e, -⟩ := otherWrite_cases v false 0 (dropTurn s)
    rw [ht, e]
    exact ⟨by split_ifs <;> rfl,
      deviceStep_of_guardedMsr v fun hmay => .inr (.inr (.inl ⟨hmay.1, hmay.2, v, hturn⟩))⟩
  | firmwareMirror high w hturn ht =>
    obtain ⟨-, -, -, e⟩ := otherWrite_cases 0 high w (dropTurn s)
    rw [ht, e]
    exact ⟨by split_ifs <;> simp [performMirrorWrite],
      deviceStep_of_guardedMirror high w fun hmay => .inr (.inr (.inl ⟨hmay.1, hmay.2, high, w, hturn⟩))⟩
  | platform d hturn ht => exact ht ▸ ⟨by unfold platformPci; split_ifs <;> rfl, deviceStep_of_platformPci hturn⟩

/-- Settles O47: a device changes only in a case of `DeviceStep` that writes it. -/
theorem devicesChangeOnlyInTheirTurns : Obligations.DevicesChangeOnlyInTheirTurns := by
  intro s t h
  obtain ⟨hcfg, hdev⟩ := step_deviceStep h
  refine ⟨hcfg, fun hpci => ?pci, fun hmsr => ?msr, fun hmirror => ?mirror⟩
  case pci =>
    cases hdev with
    | same hdev => exact absurd hdev.pci hpci
    | msrWrite _ _ hdev => exact absurd hdev.pci hpci
    | memWrite _ _ _ hdev => exact absurd (hdev.pci.trans (by simp)) hpci
    | pciChange d hb hturn => exact .inl ⟨hb, d, hturn⟩
    | power landed msr mlo mhi pci hturn => exact .inr ⟨landed, msr, mlo, mhi, pci, hturn⟩
  case msr =>
    cases hdev with
    | same hdev => exact absurd hdev.msr hmsr
    | msrWrite v hby hdev =>
      obtain ⟨hturn, hq, rfl⟩ | hext | hfirmware | hreset := hby
      · exact .inl ⟨hturn, hq, by rw [hdev.msr, performMsrWrite_msr, orMask, reqMask_eq]⟩
      · exact .inr (.inl hext)
      · exact .inr (.inr (.inl hfirmware))
      · exact .inr (.inr (.inr (.inl hreset)))
    | memWrite _ _ _ hdev => exact absurd (hdev.msr.trans (by simp)) hmsr
    | pciChange _ _ _ hkept => exact absurd hkept hmsr
    | power landed msr mlo mhi pci hturn => exact .inr (.inr (.inr (.inr ⟨landed, msr, mlo, mhi, pci, hturn⟩)))
  case mirror =>
    cases hdev with
    | same hdev => simp [hdev.mlo, hdev.mhi] at hmirror
    | msrWrite _ _ hdev => simp [hdev.mlo, hdev.mhi] at hmirror
    | memWrite _ _ hby _ =>
      obtain hcontroller | hext | hfirmware | hreset := hby
      · exact .inl hcontroller
      · exact .inr (.inl hext)
      · exact .inr (.inr (.inl hfirmware))
      · exact .inr (.inr (.inr (.inl hreset)))
    | pciChange _ _ _ _ hmlo hmhi => simp [hmlo, hmhi] at hmirror
    | power landed msr mlo mhi pci hturn => exact .inr (.inr (.inr (.inr ⟨landed, msr, mlo, mhi, pci, hturn⟩)))

/-! ### LOCK -/

/-- A LOCKED mirror rejects a write at either of its words (20_memory.md R57). -/
theorem performMemWrite_of_hit_locked {addr : Word64} {s : State} (w : Word32) (hm : s.hitsMirror addr = true)
    (hl : s.locked = true) : performMemWrite addr w s = s := by
  obtain ⟨_, hl', _⟩ | ⟨_, hl', _⟩ | ⟨_, _, e⟩ | ⟨hm', _⟩ := performMemWrite_cases addr w s
  · simp [hl] at hl'
  · simp [hl] at hl'
  · exact e
  · simp [hm] at hm'

/-- Power-on leaves the mirror UNLOCKED (20_memory.md R62). -/
theorem powerOn_unlocked (landed : Bool) (msr : Word64) (mlo mhi pci : Word32) (s : State) :
    (powerOn landed msr mlo mhi pci s).locked = false := by
  simp [locked_eq, powerOn]

/-- "No event other than power-on leaves LOCKED", and none changes a LOCKED mirror's words (20_memory.md R57). -/
theorem step_keeps_locked_mirror {s t : State} (h : step s = .next t) (hlocked : s.locked = true)
    (hpower : ∀ landed msr mlo mhi pci, nextTurn s ≠ .powerOn landed msr mlo mhi pci) :
    t.mlo = s.mlo ∧ t.mhi = s.mhi := by
  obtain ⟨-, hdev⟩ := step_deviceStep h
  cases hdev with
  | same hdev => exact ⟨hdev.mlo, hdev.mhi⟩
  | msrWrite _ _ hdev => exact ⟨hdev.mlo, hdev.mhi⟩
  | memWrite addr w _ hdev =>
    obtain ⟨hmlo, hmhi⟩ := performMemWrite_locked addr w s hlocked
    exact ⟨hdev.mlo.trans hmlo, hdev.mhi.trans hmhi⟩
  | pciChange _ _ _ _ hmlo hmhi => exact ⟨hmlo, hmhi⟩
  | power landed msr mlo mhi pci hturn => exact absurd hturn (hpower landed msr mlo mhi pci)

/-- Settles O45: the rows are those of the device write, of the read stages' frame and of power-on, and over every step
the devices see at most one write, which a LOCKED mirror rejects. -/
theorem lockStateMachine : Obligations.LockStateMachine := by
  refine ⟨fun s w hl => ?unlocked, fun s w hl => ?locked, fun i s t hq h => ?reads, powerOn_unlocked,
    fun s t h hl hpower => ?step⟩
  case unlocked =>
    have hlow := performMemWrite_low w s hl
    have hhigh := performMemWrite_high w s hl
    refine ⟨hlow, hhigh, ?_, ?_⟩
    · rw [hlow]; exact hl
    · exact (congrArg State.locked hhigh).trans (lockBit_eq w)
  case locked =>
    exact ⟨performMemWrite_of_hit_locked w (by simp [State.hitsMirror]) hl,
      performMemWrite_of_hit_locked w (by simp [State.hitsMirror, highWordOffset]) hl⟩
  case reads =>
    have hlo : s.seq ≠ .mmioWrLo := by rcases hq with hq | hq <;> simp [hq]
    have hhi : s.seq ≠ .mmioWrHi := by rcases hq with hq | hq <;> simp [hq]
    obtain ⟨hmlo, hmhi, -⟩ := (exec_stageFrame h).mirror hlo hhi
    exact ⟨hmlo, hmhi, locked_congr hmhi⟩
  case step =>
    obtain ⟨hmlo, hmhi⟩ := step_keeps_locked_mirror h hl hpower
    exact ⟨(locked_congr hmhi).trans hl, hmlo, hmhi⟩

end Sys2Proof.Machine
end

section
/-! SUPPORT. The write window: the ways into RRC's two write stages, and the step. -/

namespace Sys2Proof.Machine

/-- Outside the two write stages the window says nothing. -/
theorem writeWindow_of_seq_ne {t : State} (hlo : t.seq ≠ .mmioWrLo) (hhi : t.seq ≠ .mmioWrHi) : WriteWindow t :=
  fun _ _ => ⟨fun hq => absurd hq hlo, fun hq => absurd hq hhi⟩

theorem writeWindow_of_idle {t : State} (hq : t.seq = .idle) : WriteWindow t :=
  writeWindow_of_seq_ne (by simp [hq]) (by simp [hq])

/-- With another writer the window says nothing. -/
theorem writeWindow_of_extWriters {t : State} (h : t.cfg.extWriters = true) : WriteWindow t :=
  fun hno => by simp [h] at hno

theorem WriteWindow.of_sameRegisters {s t : State} (hs : WriteWindow s) (hregs : SameRegisters s t)
    (hdev : SameDevices s t) (hcfg : t.cfg = s.cfg) : WriteWindow t := by
  intro hext haddr
  rw [hcfg] at hext haddr
  rw [hregs.addr] at haddr
  rw [hregs.seq, hregs.newimg, locked_congr hdev.mhi, hdev.mlo]
  exact hs hext haddr

theorem Surrounded.sameRegisters {s t : State} (h : Surrounded s t) : SameRegisters s t := by
  rw [h]
  constructor <;> rfl

theorem WriteWindow.of_surrounded {s t : State} (hs : WriteWindow s) (h : Surrounded s t) : WriteWindow t :=
  hs.of_sameRegisters h.sameRegisters h.sameDevices h.cfg_eq

/-- A part of a command is not followed by a write stage. -/
theorem writeWindow_afterPart (i : Instr) {q : Seq} (s : State) (hlo : q ≠ .mmioWrLo) (hhi : q ≠ .mmioWrHi) :
    WriteWindow (afterPart i q s) := by
  obtain ⟨e, -⟩ | ⟨e, -⟩ := afterPart_cases i q s <;> rw [e]
  · exact writeWindow_of_idle rfl
  · exact writeWindow_of_seq_ne hlo hhi

/-- A command's step keeps the window: MMIO_WR_LO is entered only after the HIGH word was read UNLOCKED, and MMIO_WR_HI
only after the LOW word was written (44_mmio_reconcile.md R164, R169). -/
theorem exec_keeps_writeWindow {i : Instr} {s t : State} (hs : WriteWindow s) (h : exec i s = .next t) :
    WriteWindow t := by
  cases exec_cases h with
  | waiting _ _ ht =>
    subst ht
    exact hs.of_sameRegisters (by constructor <;> simp) (sameDevices_dropDraw s) (by simp)
  | foundUnlocked any _ _ _ _ hv ht =>
    subst ht
    intro _ haddr
    have haddr : s.addr = s.cfg.mirrorPa := by simpa [unlockedPrepare] using haddr
    have hread : memReadValue s.highAddr any s = s.mhi := by simp [memReadValue, State.highAddr, haddr]
    have hunlocked : lockBit s.mhi = false := hread ▸ hv
    exact ⟨fun _ => by simpa [unlockedPrepare, State.locked] using hunlocked, fun hq => by simp [unlockedPrepare] at hq⟩
  | lowWritten _ _ hq _ _ ht =>
    subst ht
    intro hext haddr
    have hext : s.cfg.extWriters = false := by simpa using hext
    have haddr : s.addr = s.cfg.mirrorPa := by simpa using haddr
    have hunlocked : (dropDraw s).locked = false := (locked_congr (by simp)).trans ((hs hext haddr).1 hq)
    have hwrite : performMemWrite s.addr (lo32 s.newimg) (dropDraw s) = { dropDraw s with mlo := lo32 s.newimg } := by
      rw [haddr]
      simpa using performMemWrite_low (lo32 s.newimg) (dropDraw s) hunlocked
    rw [hwrite]
    exact ⟨fun hq => by simp at hq, fun _ => ⟨hunlocked, by simp⟩⟩
  | start _ first hfirst ht =>
    obtain ⟨-, rfl⟩ | ⟨-, rfl⟩ | ⟨p, -, rfl⟩ := firstStage_cases hfirst <;>
      exact ht ▸ writeWindow_of_seq_ne (by simp) (by simp)
  | msrToWrite _ _ _ _ _ ht | lowRead _ _ _ _ _ ht => exact ht ▸ writeWindow_of_seq_ne (by simp) (by simp)
  | msrEnabled _ _ _ _ _ ht | msrWritten _ _ _ _ ht | resolved _ _ _ _ _ ht =>
    exact ht ▸ writeWindow_afterPart i _ (by simp) (by simp)
  | foundLocked any p _ _ _ _ ht =>
    obtain ⟨-, -, -, -, -, hend⟩ := lockedOutcome_effect p s.tlo (memReadValue s.highAddr any s)
      { record .mmioRdHi (.memRead s.highAddr) (.value32 (memReadValue s.highAddr any s)) (dropDraw s) with
          mmioimg := joinWords (memReadValue s.highAddr any s) s.tlo }
    exact ht ▸ writeWindow_of_idle hend
  | codec _ _ _ ht | readErr _ _ _ _ _ ht | msrWriteErr _ _ _ _ ht | disabled _ _ _ _ _ ht | lowWriteErr _ _ _ _ _ ht
  | highWritten _ _ _ _ _ ht | highWriteErr _ _ _ _ _ ht => exact ht ▸ writeWindow_of_idle rfl

/-- An MSR write is no write of the mirror. -/
theorem WriteWindow.performMsrWrite {s : State} (hs : WriteWindow s) (v : Word64) : WriteWindow (performMsrWrite v s) :=
  hs

/-- A guarded turn of another agent keeps the window where its write does. -/
theorem WriteWindow.guarded {s t : State} {mayWrite : Prop} [Decidable mayWrite] (hs : WriteWindow s)
    (ht : mayWrite → WriteWindow t) : WriteWindow (if mayWrite then t else s) := by
  split_ifs with hmay
  · exact ht hmay
  · exact hs

/-- Settles O57: the controller's steps are `exec_keeps_writeWindow`; the host reaches ADDR and firmware the mirror only
while no command runs, and the window excludes the external writer. -/
theorem stepKeepsWriteWindow : Obligations.StepKeepsWriteWindow := by
  intro s t hs h
  have hdrop : WriteWindow (dropTurn s) := hs.of_surrounded (surrounded_dropTurn s)
  cases step_cases h with
  | quiet h₀ => exact hs.of_surrounded h₀
  | stage i s₀ h₀ _ _ _ ht => exact exec_keeps_writeWindow (hs.of_surrounded h₀) ht
  | issue i w s₀ h₀ _ _ ht => exact exec_keeps_writeWindow (hs.of_surrounded h₀) ht
  | illegal _ _ _ _ _ _ ht => exact ht ▸ writeWindow_of_idle rfl
  | dropped s₀ h₀ _ ht =>
    have hs₀ : WriteWindow s₀ := hs.of_surrounded h₀
    exact ht ▸ hs₀
  | hostData s₀ h₀ hb a m d ht => exact ht ▸ writeWindow_of_idle (h₀.seq_eq.trans ((not_busy_iff s).mp hb))
  | reset _ _ ht => exact ht ▸ writeWindow_of_idle rfl
  | power _ _ _ _ _ _ ht => exact ht ▸ writeWindow_of_idle rfl
  | extMsr v _ ht => exact ht ▸ hdrop.guarded fun _ => hdrop.performMsrWrite v
  | extMirror high w _ ht =>
    refine ht ▸ hdrop.guarded fun hmay => writeWindow_of_extWriters ?_
    simpa [performMirrorWrite, State.extMayWrite] using hmay
  | firmwareMsr v _ ht => exact ht ▸ hdrop.guarded fun _ => hdrop.performMsrWrite v
  | firmwareMirror high w _ ht =>
    refine ht ▸ hdrop.guarded fun hmay => writeWindow_of_idle ?_
    obtain ⟨-, hidle⟩ : s.commanded = false ∧ s.seq = .idle := by
      simpa [State.firmwareMayWrite, State.busy] using hmay
    simpa [performMirrorWrite] using hidle
  | platform d _ ht =>
    subst ht
    unfold platformPci
    split_ifs
    · exact hdrop
    · exact hdrop

end Sys2Proof.Machine
end

section
/-! SUPPORT. Command words, field by field: which words a row of the opcode map takes, that a well-formed command is
read back from its word, that a word is the word of its command, and which words are illegal. -/

namespace Sys2Proof

open Laws.RowMatch

/-! ### A word is its five fields (30_encoding.md R81) -/

theorem word_eq_iff (w w' : Word32) : w = w' ↔ opField w = opField w' ∧ polField w = polField w' ∧
    xField w = xField w' ∧ bitField w = bitField w' ∧ rsvField w = rsvField w' := by
  refine ⟨by rintro rfl; simp, fun ⟨hop, hpol, hx, hbit, hrsv⟩ => BitVec.eq_of_getLsbD_eq fun j hj => ?_⟩
  rcases (by omega : j < 4 ∨ j = 4 ∨ j = 5 ∨ (6 ≤ j ∧ j < 12) ∨ 12 ≤ j) with h | rfl | rfl | ⟨h, h'⟩ | h
  · simpa [opField, h] using congrArg (·.getLsbD j) hop
  · exact hpol
  · exact hx
  · simpa [bitField, Nat.add_sub_cancel' h, (by omega : j - 6 < 6)] using congrArg (·.getLsbD (j - 6)) hbit
  · simpa [rsvField, Nat.add_sub_cancel' h, (by omega : j - 12 < 20)] using congrArg (·.getLsbD (j - 12)) hrsv

@[simp] theorem opField_and (w v : Word32) : opField (w &&& v) = opField w &&& opField v := BitVec.extractLsb'_and
@[simp] theorem polField_and (w v : Word32) : polField (w &&& v) = (polField w && polField v) := BitVec.getLsbD_and
@[simp] theorem xField_and (w v : Word32) : xField (w &&& v) = (xField w && xField v) := BitVec.getLsbD_and
@[simp] theorem bitField_and (w v : Word32) : bitField (w &&& v) = bitField w &&& bitField v := BitVec.extractLsb'_and
@[simp] theorem rsvField_and (w v : Word32) : rsvField (w &&& v) = rsvField w &&& rsvField v := BitVec.extractLsb'_and

/-! ### The rows of the opcode map, by the fields they use (30_encoding.md R84) -/

/-- The OP value of a row. -/
def Mnemonic.code : Mnemonic → BitVec 4
  | .testf  => 1
  | .withf  => 2
  | .msrrc  => 3
  | .mchrs  => 4
  | .mmiorc => 5
  | .run    => 6

/-- Whether a row uses the field POL. -/
def Mnemonic.usesPol (m : Mnemonic) : Bool := m = .mmiorc ∨ m = .run

/-- Whether a row uses the field X. -/
def Mnemonic.usesX (m : Mnemonic) : Bool := m = .withf

/-- Whether a row uses the field BIT. -/
def Mnemonic.usesBit (m : Mnemonic) : Bool := m = .testf ∨ m = .withf

/-- A word with a row's OP, RSV zero and every field the row does not use zero. -/
structure Mnemonic.Fits (m : Mnemonic) (w : Word32) : Prop where
  op  : opField w = m.code
  pol : m.usesPol = false → polField w = false
  x   : m.usesX = false → xField w = false
  bit : m.usesBit = false → bitField w = 0
  rsv : rsvField w = 0

theorem code_injective : Function.Injective Mnemonic.code := by
  intro m m'
  cases m <;> cases m' <;> decide

theorem row_value_fields : ∀ r ∈ opcodeRows, opField r.value = r.mnemonic.code ∧ polField r.value = false ∧
    xField r.value = false ∧ bitField r.value = 0 ∧ rsvField r.value = 0 := by decide

theorem row_mask_fields : ∀ r ∈ opcodeRows, opField r.mask = BitVec.allOnes 4 ∧
    polField r.mask = !r.mnemonic.usesPol ∧ xField r.mask = !r.mnemonic.usesX ∧
    bitField r.mask = (if r.mnemonic.usesBit then 0 else BitVec.allOnes 6) ∧
    rsvField r.mask = BitVec.allOnes 20 := by decide

theorem exists_row (m : Mnemonic) : ∃ r ∈ opcodeRows, r.mnemonic = m := by cases m <;> decide

/-- A row's mask compares OP, RSV and the unused fields, and its value has zeros in all but OP. -/
theorem rowMatches_iff_fits {r : OpcodeRow} (hr : r ∈ opcodeRows) (w : Word32) :
    rowMatches r w = true ↔ r.mnemonic.Fits w := by
  obtain ⟨vop, vpol, vx, vbit, vrsv⟩ := row_value_fields r hr
  obtain ⟨mop, mpol, mx, mbit, mrsv⟩ := row_mask_fields r hr
  have hfields : rowMatches r w = true ↔ opField w = r.mnemonic.code ∧
      (polField w && !r.mnemonic.usesPol) = false ∧ (xField w && !r.mnemonic.usesX) = false ∧
      bitField w &&& (if r.mnemonic.usesBit then 0 else BitVec.allOnes 6) = 0 ∧ rsvField w = 0 := by
    rw [rowMatches, beq_iff_eq, word_eq_iff]
    simp only [opField_and, polField_and, xField_and, bitField_and, rsvField_and, mop, mpol, mx, mbit, mrsv, vop, vpol,
      vx, vbit, vrsv, BitVec.and_allOnes]
  rw [hfields]
  constructor
  · rintro ⟨hop, hpol, hx, hbit, hrsv⟩
    refine ⟨hop, fun h => by simpa [h] using hpol, fun h => by simpa [h] using hx, fun h => ?_, hrsv⟩
    simpa only [h, Bool.false_eq_true, if_false, BitVec.and_allOnes] using hbit
  · rintro ⟨hop, hpol, hx, hbit, hrsv⟩
    refine ⟨hop, ?_, ?_, ?_, hrsv⟩
    · cases h : r.mnemonic.usesPol <;> simp [h, hpol]
    · cases h : r.mnemonic.usesX <;> simp [h, hx]
    · cases h : r.mnemonic.usesBit <;> simp [h, hbit]

theorem decode_ok_iff_fits (w : Word32) (i : Instr) :
    decode w = .ok i ↔ ∃ m : Mnemonic, m.Fits w ∧ i = commandOf m w := by
  rw [decode_ok_iff]
  constructor
  · rintro ⟨r, hr, hm, hi⟩
    exact ⟨r.mnemonic, (rowMatches_iff_fits hr w).mp hm, hi⟩
  · rintro ⟨m, hm, hi⟩
    obtain ⟨r, hr, rfl⟩ := exists_row m
    exact ⟨r, hr, (rowMatches_iff_fits hr w).mpr hm, hi⟩

theorem decode_error_iff_not_fits (w : Word32) : (∃ e, decode w = .error e) ↔ ∀ m : Mnemonic, ¬ m.Fits w := by
  rw [decode_error_iff]
  constructor
  · intro h m hm
    obtain ⟨r, hr, rfl⟩ := exists_row m
    exact absurd ((rowMatches_iff_fits hr w).mpr hm) (by simp [h r hr])
  · intro h r hr
    exact Bool.eq_false_iff.mpr fun hm => h _ ((rowMatches_iff_fits hr w).mp hm)

/-! ### From a command to its word and back (30_encoding.md R88) -/

theorem bitField_or (w v : Word32) : bitField (w ||| v) = bitField w ||| bitField v := BitVec.extractLsb'_or

theorem bitField_shiftLeft_ofNat (b : Nat) : bitField (BitVec.ofNat 32 b <<< 6) = BitVec.ofNat 6 b := by
  apply BitVec.eq_of_toNat_eq
  simp only [bitField, BitVec.extractLsb'_toNat, BitVec.toNat_shiftLeft, BitVec.toNat_ofNat, Nat.shiftLeft_eq,
    Nat.shiftRight_eq_div_pow]
  omega

theorem bitField_encode_testf (b : Nat) : bitField (encode (.testf b)) = BitVec.ofNat 6 b := by
  rw [encode, bitField_or, bitField_shiftLeft_ofNat]
  exact BitVec.zero_or

theorem bitField_encode_withf (b : Nat) (x : Bool) : bitField (encode (.withf b x)) = BitVec.ofNat 6 b := by
  have hx : bitField ((BitVec.ofBool x).setWidth 32 <<< 5) = 0 := by cases x <;> rfl
  rw [encode, bitField_or, bitField_or, bitField_shiftLeft_ofNat, hx]
  exact BitVec.or_zero.trans BitVec.zero_or

theorem xField_encode_withf (b : Nat) (x : Bool) : xField (encode (.withf b x)) = x := by
  simp [xField, encode]

/-- Six bits hold every bit index (30_encoding.md R83). -/
theorem toNat_bitIndex {b : Nat} (h : b ≤ 63) : (BitVec.ofNat 6 b).toNat = b := by
  rw [BitVec.toNat_ofNat]
  omega

/-- The operands of a well-formed command are read back from its word. -/
theorem commandOf_encode {i : Instr} (h : i.wellFormed = true) : commandOf (mnemonicOf i) (encode i) = i := by
  cases i with
  | testf b => simp only [commandOf, mnemonicOf, bitField_encode_testf, toNat_bitIndex (of_decide_eq_true h)]
  | withf b x =>
    simp only [commandOf, mnemonicOf, bitField_encode_withf, xField_encode_withf, toNat_bitIndex (of_decide_eq_true h)]
  | msrrc => rfl
  | mchrs => rfl
  | mmiorc p => cases p <;> rfl
  | run p => cases p <;> rfl

theorem encode_fits {i : Instr} (h : i.wellFormed = true) : (mnemonicOf i).Fits (encode i) := by
  have hrow : Statement i := by
    cases i with
    | testf b => exact testf b
    | withf b x => exact withf b x
    | msrrc => exact msrrc
    | mchrs => exact mchrs
    | mmiorc p => exact mmiorc p
    | run p => exact run p
  obtain ⟨r, hr, hm, hmatch⟩ := hrow h
  exact hm ▸ (rowMatches_iff_fits hr _).mp hmatch

/-- Settles O1: the word fits the command's own row, and the row's operands are the command's. -/
theorem decodeOfEncodeIsTheCommand : Obligations.DecodeOfEncodeIsTheCommand := fun i h =>
  (decode_ok_iff_fits (encode i) i).mpr ⟨mnemonicOf i, encode_fits h, (commandOf_encode h).symm⟩

/-! ### From a word to its command and back -/

theorem mnemonicOf_commandOf (m : Mnemonic) (w : Word32) : mnemonicOf (commandOf m w) = m := by cases m <;> rfl

theorem wellFormed_commandOf (m : Mnemonic) (w : Word32) : (commandOf m w).wellFormed = true := by
  have hbit : (bitField w).toNat ≤ 63 := Nat.le_of_lt_succ (bitField w).isLt
  cases m <;> simp [commandOf, Instr.wellFormed, hbit]

theorem policyOfBit_injective : Function.Injective policyOfBit := by decide

/-- Two words of one row with the same operands are equal: a field is an operand, or it is fixed by the row. -/
theorem Mnemonic.Fits.eq_of_commandOf_eq {m : Mnemonic} {w w' : Word32} (h : m.Fits w) (h' : m.Fits w')
    (e : commandOf m w = commandOf m w') : w = w' := by
  have hpol : polField w = polField w' := by
    cases hu : m.usesPol with
    | false => rw [h.pol hu, h'.pol hu]
    | true =>
      obtain rfl | rfl := of_decide_eq_true hu
      · exact policyOfBit_injective (Instr.mmiorc.inj e)
      · exact policyOfBit_injective (Instr.run.inj e)
  have hx : xField w = xField w' := by
    cases hu : m.usesX with
    | false => rw [h.x hu, h'.x hu]
    | true =>
      obtain rfl := of_decide_eq_true hu
      exact (Instr.withf.inj e).2
  have hbit : bitField w = bitField w' := by
    cases hu : m.usesBit with
    | false => rw [h.bit hu, h'.bit hu]
    | true =>
      obtain rfl | rfl := of_decide_eq_true hu
      · exact BitVec.eq_of_toNat_eq (Instr.testf.inj e)
      · exact BitVec.eq_of_toNat_eq (Instr.withf.inj e).1
  exact (word_eq_iff w w').mpr ⟨h.op.trans h'.op.symm, hpol, hx, hbit, h.rsv.trans h'.rsv.symm⟩

/-- Settles O2: the word and the encoder's word fit one row and, by O1's read-back, have the same operands. -/
theorem encodeOfDecodeIsTheWord : Obligations.EncodeOfDecodeIsTheWord := by
  intro w i h
  obtain ⟨m, hm, rfl⟩ := (decode_ok_iff_fits w i).mp h
  have hwf := wellFormed_commandOf m w
  have hfits := encode_fits hwf
  have hcommand := commandOf_encode hwf
  rw [mnemonicOf_commandOf] at hfits hcommand
  exact ⟨hwf, hfits.eq_of_commandOf_eq hm hcommand⟩

/-- Settles O3: the rows differ in OP, and the decoder answers the command of the row that matches. -/
theorem everyWordMatchesAtMostOneRow : Obligations.EveryWordMatchesAtMostOneRow := by
  intro w
  refine ⟨fun r hr r' hr' => row_unique hr hr', ?decodes, (decode_error_iff w).symm⟩
  case decodes =>
    constructor
    · rintro ⟨r, hr, hm⟩
      exact ⟨_, (decode_ok_iff w _).mpr ⟨r, hr, hm, rfl⟩⟩
    · rintro ⟨i, h⟩
      obtain ⟨r, hr, hm, -⟩ := (decode_ok_iff w i).mp h
      exact ⟨r, hr, hm⟩

/-- Settles O5: the decoder, evaluated on nine words. -/
theorem sampleWordsDecode : Obligations.SampleWordsDecode := by
  unfold Obligations.SampleWordsDecode
  decide

/-! ### The illegal words (30_encoding.md R85) -/

/-- R85's reasons: an unassigned OP, RSV not zero, or a field the opcode does not use not zero. -/
def IllegalWord (w : Word32) : Prop :=
  (opField w = 0 ∨ 7 ≤ (opField w).toNat) ∨
  rsvField w ≠ 0 ∨
  (opField w = 1 ∧ (polField w = true ∨ xField w = true)) ∨
  (opField w = 2 ∧ polField w = true) ∨
  ((opField w = 3 ∨ opField w = 4) ∧ (polField w = true ∨ xField w = true ∨ bitField w ≠ 0)) ∨
  ((opField w = 5 ∨ opField w = 6) ∧ (xField w = true ∨ bitField w ≠ 0))

theorem Mnemonic.code_assigned (m : Mnemonic) : ¬ (m.code = 0 ∨ 7 ≤ m.code.toNat) := by cases m <;> decide

theorem exists_code_of_assigned {o : BitVec 4} (h : ¬ (o = 0 ∨ 7 ≤ o.toNat)) : ∃ m : Mnemonic, o = m.code := by
  have sixteen : ∀ o : BitVec 4, (o = 0 ∨ 7 ≤ o.toNat) ∨ o = 1 ∨ o = 2 ∨ o = 3 ∨ o = 4 ∨ o = 5 ∨ o = 6 := by decide
  rcases (sixteen o).resolve_left h with rfl | rfl | rfl | rfl | rfl | rfl
  exacts [⟨.testf, rfl⟩, ⟨.withf, rfl⟩, ⟨.msrrc, rfl⟩, ⟨.mchrs, rfl⟩, ⟨.mmiorc, rfl⟩, ⟨.run, rfl⟩]

theorem not_fits_iff {m : Mnemonic} {w : Word32} (hop : opField w = m.code) : ¬ m.Fits w ↔
    rsvField w ≠ 0 ∨ (m.usesPol = false ∧ polField w = true) ∨ (m.usesX = false ∧ xField w = true) ∨
      (m.usesBit = false ∧ bitField w ≠ 0) := by
  have hfits : m.Fits w ↔ rsvField w = 0 ∧ (m.usesPol = false → polField w = false) ∧
      (m.usesX = false → xField w = false) ∧ (m.usesBit = false → bitField w = 0) :=
    ⟨fun h => ⟨h.rsv, h.pol, h.x, h.bit⟩, fun ⟨hrsv, hpol, hx, hbit⟩ => ⟨hop, hpol, hx, hbit, hrsv⟩⟩
  simp only [hfits, not_and_or, Classical.not_imp, Bool.not_eq_false, ne_eq]

theorem illegalWord_iff_not_fits {m : Mnemonic} {w : Word32} (hop : opField w = m.code) :
    IllegalWord w ↔ ¬ m.Fits w := by
  rw [not_fits_iff hop, IllegalWord, hop]
  cases m <;> simp [Mnemonic.code, Mnemonic.usesPol, Mnemonic.usesX, Mnemonic.usesBit]

/-- The decoder rejects exactly R85's words: an unassigned OP is no row's, and an assigned one is one row's. -/
theorem illegalWord_iff_decode_error (w : Word32) : IllegalWord w ↔ ∃ e, decode w = .error e := by
  rw [decode_error_iff_not_fits]
  by_cases h : opField w = 0 ∨ 7 ≤ (opField w).toNat
  · exact iff_of_true (.inl h) fun m hm => m.code_assigned (hm.op ▸ h)
  · obtain ⟨m, hm⟩ := exists_code_of_assigned h
    rw [illegalWord_iff_not_fits hm]
    refine ⟨fun hnot m' hm' => hnot ?_, fun hnone => hnone m⟩
    exact code_injective (hm.symm.trans hm'.op) ▸ hm'

end Sys2Proof
end

section
/-! SUPPORT. A host write to CMD: while SEQ is not IDLE, of an illegal word, and of the word of each command; and the
commands the assembler admits. -/

namespace Sys2Proof.Machine

/-! ### Acceptance of a command (30_encoding.md R86) -/

theorem hostWrite_cmd_of_running (v : Word64) {s : State} (hq : s.seq ≠ .idle) :
    hostWrite HostReg.cmd.index v s = .next (setWovr s) := if_pos ((busy_iff s).mpr hq)

theorem hostWrite_cmd_of_idle (v : Word64) {s : State} (hq : s.seq = .idle) :
    hostWrite HostReg.cmd.index v s = issueWord (lo32 v) s := if_neg (by simp [State.busy, hq])

theorem hostWrite_cmd_of_decode_ok {v : Word64} {i : Instr} {s : State} (hq : s.seq = .idle)
    (h : decode (lo32 v) = .ok i) : hostWrite HostReg.cmd.index v s = exec i s := by
  simp [hostWrite_cmd_of_idle v hq, issueWord, h]

theorem acceptIllegal_of_idle (w : Word32) {s : State} (hq : s.seq = .idle) :
    acceptIllegal w s = { s with
      cmd := w, trace := [], commanded := true,
      status := { Status.clear with done := true, fatal := true, err := .illegalCmd } } := by
  rw [hq]
  rfl

theorem hostWrite_cmd_of_decode_error {v : Word64} {e : DecodeError} {s : State} (hq : s.seq = .idle)
    (h : decode (lo32 v) = .error e) : hostWrite HostReg.cmd.index v s = .next
      { s with
        cmd := lo32 v, trace := [], commanded := true,
        status := { Status.clear with done := true, fatal := true, err := .illegalCmd } } := by
  simp [hostWrite_cmd_of_idle v hq, issueWord, h, acceptIllegal_of_idle _ hq]

theorem exec_testf_of_idle (b : Nat) {s : State} (hq : s.seq = .idle) : exec (.testf b) s = .next
    { s with
      cmd := encode (.testf b), trace := [], commanded := true, status := { Status.clear with done := true }
      r := if s.a.getLsbD b then 1 else 0 } := by
  simp only [exec, execTestf, hq]
  rfl

theorem exec_withf_of_idle (b : Nat) (x : Bool) {s : State} (hq : s.seq = .idle) : exec (.withf b x) s = .next
    { s with
      cmd := encode (.withf b x), trace := [], commanded := true, status := { Status.clear with done := true }
      r := if x then s.a ||| ((1 : Word64) <<< b) else s.a &&& ~~~((1 : Word64) <<< b) } := by
  simp only [exec, execWithf, hq]
  rfl

/-- A command with stages is accepted by naming its first stage. -/
theorem exec_start_of_idle {i : Instr} {first : Seq} {s : State} (hq : s.seq = .idle)
    (hi : (stagesOf i).head? = some first) : exec i s = .next
      { s with cmd := encode i, trace := [], commanded := true, status := Status.clear, seq := first } := by
  obtain ⟨rfl | ⟨p, rfl⟩, rfl⟩ | ⟨rfl, rfl⟩ | ⟨p, rfl, rfl⟩ := firstStage_cases hi
  · simp only [exec, execMsrrc, hq]; rfl
  · simp only [exec, execRun, hq]; rfl
  · simp only [exec, execMchrs, hq]; rfl
  · simp only [exec, execMmiorc, hq]; rfl

/-- Settles O8: each command's word and first stage, evaluated. -/
theorem reconcileCommandsStart : Obligations.ReconcileCommandsStart := fun _ hq =>
  ⟨exec_start_of_idle hq rfl, exec_start_of_idle hq rfl, exec_start_of_idle hq rfl, exec_start_of_idle hq rfl,
    exec_start_of_idle hq rfl, exec_start_of_idle hq rfl⟩

/-- CMD takes the word written, which is the word of the command that starts (30_encoding.md R84, R86). -/
theorem hostWrite_cmd_starts {v : Word64} {i : Instr} {first : Seq} {s : State} (hq : s.seq = .idle)
    (h : decode (lo32 v) = .ok i) (hi : (stagesOf i).head? = some first) : hostWrite HostReg.cmd.index v s = .next
      { s with cmd := lo32 v, trace := [], commanded := true, status := Status.clear, seq := first } := by
  rw [hostWrite_cmd_of_decode_ok hq h, exec_start_of_idle hq hi, (encodeOfDecodeIsTheWord _ _ h).2]

/-- Settles O7: a write is dropped while SEQ is not IDLE; otherwise it is an illegal word's acceptance or the command's
`exec`, which puts the command's own word, the one written, in CMD. -/
theorem commandAcceptance : Obligations.CommandAcceptance := by
  refine ⟨fun v s hq => hostWrite_cmd_of_running v hq, fun v s hq => ?_⟩
  refine ⟨fun e h => hostWrite_cmd_of_decode_error hq h, fun b h => ?testf, fun b x h => ?withf,
    fun h => hostWrite_cmd_starts hq h rfl, fun h => hostWrite_cmd_starts hq h rfl,
    fun p h => hostWrite_cmd_starts hq h rfl, fun p h => hostWrite_cmd_starts hq h rfl⟩
  case testf => rw [hostWrite_cmd_of_decode_ok hq h, exec_testf_of_idle b hq, (encodeOfDecodeIsTheWord _ _ h).2]
  case withf => rw [hostWrite_cmd_of_decode_ok hq h, exec_withf_of_idle b x hq, (encodeOfDecodeIsTheWord _ _ h).2]

/-- Settles O4: the decoder's rejections are R85's words, and the state an illegal word leaves reads 0x306. -/
theorem illegalWordsCompleteWithIllegalCommand : Obligations.IllegalWordsCompleteWithIllegalCommand := by
  intro v s hb
  have hq := (not_busy_iff s).mp hb
  refine ⟨illegalWord_iff_decode_error (lo32 v), fun ⟨e, h⟩ => ⟨_, hostWrite_cmd_of_decode_error hq h, ?status, rfl⟩⟩
  case status =>
    simp only [State.statusWord, State.busy, hq]
    rfl

/-! ### The assembler (30_encoding.md R88) -/

theorem parseBit_le {cs : List Char} {b : Nat} (h : parseBit cs = some b) : b ≤ 63 := by
  unfold parseBit at h
  split at h
  · split_ifs at h with hle
    exact Option.some.inj h ▸ hle
  · cases h

/-- Only TESTF and WITHF have an operand that could be out of range, and theirs has been read by `parseBit`. -/
theorem commandFrom_wellFormed {mnemonic : List Char} {operands : List (List Char)} {i : Instr}
    (h : commandFrom mnemonic operands = some i) : i.wellFormed = true := by
  unfold commandFrom at h
  split at h
  · split_ifs at h <;> cases h <;> rfl
  · split_ifs at h
    · obtain ⟨b, hb, rfl⟩ := Option.map_eq_some_iff.mp h
      exact decide_eq_true (parseBit_le hb)
    · obtain ⟨p, -, rfl⟩ := Option.map_eq_some_iff.mp h
      rfl
    · obtain ⟨p, -, rfl⟩ := Option.map_eq_some_iff.mp h
      rfl
  · split_ifs at h
    split at h
    · next hb _ =>
      cases h
      exact decide_eq_true (parseBit_le hb)
    · cases h
  · cases h

/-- Settles O6: what the assembler admits is well formed, so O1 reads it back. -/
theorem assembledCommandsAreWellFormed : Obligations.AssembledCommandsAreWellFormed := by
  intro line i h
  have hwf := commandFrom_wellFormed h
  exact ⟨hwf, decodeOfEncodeIsTheCommand i hwf⟩

end Sys2Proof.Machine
end

section
/-! SUPPORT. The host's turn: the step in which it issues a command, a word placed for it, and its pseudo-operations. -/

namespace Sys2Proof.Machine

/-- With no schedule the host moves while SEQ = IDLE (log entry 6). -/
theorem step_of_idle_unscheduled {s : State} (hq : s.seq = .idle) (h : s.turns = []) : step s = hostTurn s := by
  have hdrop : dropTurn s = s := by rw [dropTurn, h, List.tail_nil, ← h]
  have hturn : nextTurn s = .host := by simp [nextTurn, h, State.busy, hq]
  rw [step, stepAgents, hturn, hdrop]
  rfl

theorem hostTurn_of_cons {s : State} {op : HostOp} {ops : List HostOp} (h : s.program = op :: ops) :
    hostTurn s = hostOperation op { s with program := ops } := by
  simp [hostTurn, h]

theorem hostTurn_issues {s : State} {v : Word64} {i : Instr} {ops : List HostOp} (hq : s.seq = .idle)
    (hd : decode (lo32 v) = .ok i) (h : s.program = .wr HostReg.cmd.index v :: ops) :
    hostTurn s = exec i { s with program := ops } :=
  (hostTurn_of_cons h).trans (hostWrite_cmd_of_decode_ok hq hd)

/-- Settles O32: under both schedules the step is the host's turn, which issues the command. -/
theorem stepRunsTheIssuedCommand : Obligations.StepRunsTheIssuedCommand := by
  intro s v i ops hq hd h
  refine ⟨fun ts hts => ?scheduled, fun hts => ?unscheduled⟩
  case scheduled => exact (step_of_turns_cons hts).trans (hostTurn_issues hq hd h)
  case unscheduled => exact (step_of_idle_unscheduled hq hts).trans (hostTurn_issues hq hd h)

theorem decode_of_decodeTableWord {nbits w : Nat} {i : Instr} (h : decodeTableWord nbits w = some i) :
    decode (BitVec.ofNat 32 (w % 2 ^ nbits)) = .ok i := by
  unfold decodeTableWord at h
  split at h
  · next hd => rw [hd, Option.some.inj h]
  · cases h

/-- Settles O34: placing a word is scheduling the host's write of it to CMD, so this is O32's scheduled step. -/
theorem placedWordRuns : Obligations.PlacedWordRuns := by
  intro s w i h
  have hd : decode (lo32 (zext64 (BitVec.ofNat 32 (w % 2 ^ 32)))) = .ok i := by
    rw [lo32_zext64]
    exact decode_of_decodeTableWord h
  exact (stepRunsTheIssuedCommand (s.withFetchWord 32 w) _ i s.program rfl hd rfl).1 s.turns rfl

/-- BUSY is bit 0 of STATUS as the host reads it (10_state.md R22). -/
theorem statusWord_busy (s : State) : isFieldEnabled (zext64 s.statusWord) 0 = s.busy := by
  have hbit : s.statusWord.getLsbD 0 = s.busy := (statusFields_bits s).1
  simpa [isFieldEnabled, zext64] using hbit

theorem hostPoll_eq (s : State) : hostPoll s =
    { s with
      rdData := zext64 s.statusWord
      program := if s.busy = true then .wait :: s.program else s.program } := by
  have hread : hostRead HostReg.status.index s = { s with rdData := zext64 s.statusWord } := rfl
  simp only [hostPoll, hread, statusWord_busy]
  split_ifs <;> rfl

/-- Settles O40: ISSUE and DO are their expansions by definition, and WAIT is `hostPoll_eq`. -/
theorem hostOperationsExpand : Obligations.HostOperationsExpand := fun _ s =>
  ⟨rfl, rfl, congrArg Host.Outcome.next (hostPoll_eq s)⟩

end Sys2Proof.Machine
end

section
/-! SUPPORT. The bit-field codec: insertion bit by bit, its laws, and the effect of TESTF and WITHF. -/

namespace Sys2Proof.Machine

/-! ### Insertion, bit by bit (41_codec.md R100, R102) -/

theorem getLsbD_oneBit (b : Nat) {j : Nat} (hj : j < 64) : ((1 : Word64) <<< b).getLsbD j = decide (j = b) := by
  have hbit : (1 : Word64) <<< b = BitVec.twoPow 64 b := (BitVec.twoPow_eq 64 b).symm
  rw [hbit, BitVec.getLsbD_twoPow]
  by_cases hjb : j = b
  · simp [← hjb, hj]
  · simp [hjb, Ne.symm hjb]

/-- Insertion writes the one bit and keeps every other. -/
theorem getLsbD_withField (v : Word64) (b : Nat) (x : Bool) {j : Nat} (hj : j < 64) :
    (withField v b x).getLsbD j = if j = b then x else v.getLsbD j := by
  cases x with
  | false =>
    simp only [withField, Bool.false_eq_true, if_false, BitVec.getLsbD_and, BitVec.getLsbD_not, getLsbD_oneBit b hj]
    by_cases hjb : j = b <;> simp [hj, hjb]
  | true =>
    simp only [withField, if_true, BitVec.getLsbD_or, getLsbD_oneBit b hj]
    by_cases hjb : j = b <;> simp [hjb]

theorem isFieldEnabled_withField (v : Word64) {b : Nat} (x : Bool) (hb : b ≤ 63) :
    isFieldEnabled (withField v b x) b = x := by
  simp [isFieldEnabled, getLsbD_withField v b x (Nat.lt_succ_of_le hb)]

theorem withField_idem (v : Word64) (b : Nat) (x : Bool) : withField (withField v b x) b x = withField v b x := by
  refine BitVec.eq_of_getLsbD_eq fun j hj => ?_
  simp only [getLsbD_withField _ b x hj]
  split <;> rfl

/-- Two values that differ in the inserted bit alone are equal once it is cleared. -/
theorem withField_and_not_oneBit (v : Word64) (b : Nat) (x : Bool) :
    withField v b x &&& ~~~((1 : Word64) <<< b) = v &&& ~~~((1 : Word64) <<< b) := by
  refine BitVec.eq_of_getLsbD_eq fun j hj => ?_
  rw [BitVec.getLsbD_and, BitVec.getLsbD_and, BitVec.getLsbD_not, getLsbD_oneBit b hj, getLsbD_withField v b x hj]
  by_cases hjb : j = b <;> simp [hjb]

/-- Settles O11: each law, read off the bits of an insertion. -/
theorem codecLaws : Obligations.CodecLaws := fun v b x hb =>
  ⟨isFieldEnabled_withField v true hb, isFieldEnabled_withField v false hb, withField_idem v b x,
    withField_and_not_oneBit v b x⟩

/-! ### TESTF and WITHF (41_codec.md R103, R104) -/

/-- STATUS as it reads when nothing but DONE is set. -/
theorem statusWord_of_done {s : State} (hq : s.seq = .idle) (hst : s.status = { Status.clear with done := true }) :
    s.statusWord = 0x00000002 := by
  simp only [State.statusWord, State.busy, hq, hst]
  rfl

/-- Settles O9: `exec_testf_of_idle`, and the STATUS it leaves. -/
theorem testfExtractsTheBit : Obligations.TestfExtractsTheBit := fun b _ _ hq =>
  ⟨_, exec_testf_of_idle b hq, statusWord_of_done hq rfl, rfl⟩

theorem encode_withf (b : Nat) (x : Bool) : encode (.withf b x) =
    (0x00000002 : Word32) ||| (BitVec.ofNat 32 b <<< 6) ||| (if x then (0x00000020 : Word32) else 0x00000000) := by
  cases x <;> rfl

/-- Settles O10: `exec_withf_of_idle`, the STATUS it leaves, and the bits of an insertion. -/
theorem withfInsertsTheBit : Obligations.WithfInsertsTheBit := fun b x s _ hq =>
  ⟨_, exec_withf_of_idle b x hq, statusWord_of_done hq rfl, by rw [encode_withf], fun _ => getLsbD_withField s.a b x⟩

/-- A codec command has a step at SEQ = IDLE only (10_state.md R36). -/
theorem seq_of_exec_codec {i : Instr} {s t : State} (hi : stagesOf i = []) (h : exec i s = .next t) :
    s.seq = .idle := by
  cases i with
  | testf b => cases hq : s.seq <;> simp [exec, execTestf, hq] at h ⊢
  | withf b x => cases hq : s.seq <;> simp [exec, execWithf, hq] at h ⊢
  | msrrc => cases hi
  | mchrs => cases hi
  | mmiorc p => cases hi
  | run p => cases hi

/-- The two codec commands differ in the word they put in CMD and the value they put in R. -/
theorem exec_codec_effect {i : Instr} {s t : State} (hi : (∃ b, i = .testf b) ∨ ∃ b x, i = .withf b x)
    (h : exec i s = .next t) : ∃ r, t = { s with
      cmd := encode i, trace := [], commanded := true, status := { Status.clear with done := true }, r := r } := by
  obtain ⟨b, rfl⟩ | ⟨b, x, rfl⟩ := hi
  · exact ⟨_, (Host.Outcome.next.inj ((exec_testf_of_idle b (seq_of_exec_codec rfl h)).symm.trans h)).symm⟩
  · exact ⟨_, (Host.Outcome.next.inj ((exec_withf_of_idle b x (seq_of_exec_codec rfl h)).symm.trans h)).symm⟩

/-- Settles O12: every field but those of `exec_codec_effect` is the old state's, so the mirror answers as before. -/
theorem codecCommandsFrame : Obligations.CodecCommandsFrame := by
  intro i s t hi h
  obtain ⟨r, rfl⟩ := exec_codec_effect hi h
  refine ⟨?registers, ?devices, ?surroundings, rfl, rfl, rfl, mirrorWord_congr rfl rfl rfl⟩
  case registers => constructor <;> rfl
  case devices => constructor <;> rfl
  case surroundings => constructor <;> rfl

end Sys2Proof.Machine
end

section
/-! SUPPORT. The STATUS words at completion: STATUS of a running command at each stage, each way a command ends against
the words its rule lists, and the step. -/

namespace Sys2Proof.Machine

/-! ### STATUS of a running command -/

/-- The MSR_RPT and MCH_OK a command can have reported when it is about to perform a stage (10_state.md R27, R29). -/
def reportsAt : Instr → Seq → List (MsrReport × Bool)
  | .run _, .pciRd => [(.alreadyEnabled, false), (.written, false)]
  | .run _, .mmioRdLo | .run _, .mmioRdHi | .run _, .mmioWrLo | .run _, .mmioWrHi =>
    [(.alreadyEnabled, true), (.written, true)]
  | _, _ => [(.notRun, false)]

theorem mem_reportsAt {i : Instr} {s : State} (h : reportsSoFar i s) :
    (s.status.msrRpt, s.status.mchOk) ∈ reportsAt i s.seq := by
  have reported : ∀ c : MsrReport, c ≠ .notRun → c = .alreadyEnabled ∨ c = .written := by
    intro c; cases c <;> simp
  cases i with
  | run p =>
    cases hq : s.seq <;> simp only [reportsSoFar, hq] at h <;> simp [reportsAt, h, reported]
  | testf _ | withf _ _ | msrrc | mchrs | mmiorc _ => simpa [reportsAt, reportsSoFar] using h

/-- STATUS of a running command: its reports, WOVR, and nothing else (10_state.md R23). -/
def Status.running (wovr : Bool) (r : MsrReport × Bool) : Status :=
  { Status.clear with wovr := wovr, msrRpt := r.1, mchOk := r.2 }

theorem Status.InProgress.eq_running {st : Status} (h : st.InProgress) :
    st = .running st.wovr (st.msrRpt, st.mchOk) :=
  Status.ext h.done h.fatal h.warn rfl h.err h.stage rfl h.mmioRpt rfl

/-- What a running command's STATUS can be at a stage. -/
theorem RegisterInv.status_running {s : State} {i : Instr} (hs : RegisterInv s) (hb : s.busy = true)
    (hd : decode s.cmd = .ok i) :
    ∃ wovr, ∃ r ∈ reportsAt i s.seq, s.status = .running wovr r :=
  ⟨_, _, mem_reportsAt (hs.running_command hb hd).2, (hs.inProgress_status hb).eq_running⟩

/-! ### The ways a command ends, against the words its rule lists -/

/-- STATUS as it reads while no command runs, WOVR apart. -/
def Status.outcome (st : Status) : Word32 :=
  { State.reset with status := st }.statusWord &&& ~~~(0x00000010 : Word32)

theorem statusWord_outcome {s : State} (hq : s.seq = .idle) :
    s.statusWord &&& ~~~(0x00000010 : Word32) = s.status.outcome := by
  simp only [Status.outcome, State.statusWord, State.busy, hq]
  rfl

/-- AccessError at any stage of any command (60_exceptions.md R210). -/
theorem accessError_listed (i : Instr) : ∀ q ∈ stagesOf i, ∀ r ∈ reportsAt i q, ∀ wovr : Bool,
    { Status.running wovr r with done := true, fatal := true, err := .access, stage := q }.outcome ∈
      completionStatus (some i) := by
  cases i with
  | testf b => simp [stagesOf]
  | withf b x => simp [stagesOf]
  | msrrc => decide
  | mchrs => decide
  | mmiorc p => cases p <;> decide
  | run p => cases p <;> decide

/-- TESTF and WITHF complete with nothing but DONE set (41_codec.md R103, R104). -/
theorem codec_listed {i : Instr} (hi : stagesOf i = []) :
    { Status.clear with done := true }.outcome ∈ completionStatus (some i) := by
  have hword : { Status.clear with done := true }.outcome = 0x00000002 := by decide
  rw [hword]
  cases i with
  | testf b => exact List.mem_singleton.mpr rfl
  | withf b x => exact List.mem_singleton.mpr rfl
  | msrrc => cases hi
  | mchrs => cases hi
  | mmiorc p => cases hi
  | run p => cases hi

/-- BaseRegisterDisabled (43_mchbar_resolve.md R142). -/
theorem baseDisabled_listed {i : Instr} (hi : i.hasPciPart) : ∀ r ∈ reportsAt i .pciRd, ∀ wovr : Bool,
    { Status.running wovr r with done := true, fatal := true, err := .baseDisabled, stage := .pciRd }.outcome ∈
      completionStatus (some i) := by
  obtain rfl | ⟨p, rfl⟩ := hi
  · decide
  · cases p <;> decide

/-- MSRRC completes with the report of its MSR part (42_msr_reconcile.md R121). -/
theorem msrPart_listed : ∀ q ∈ stagesOf .msrrc, ∀ r ∈ reportsAt .msrrc q, ∀ c ∈ [MsrReport.alreadyEnabled, .written],
    ∀ wovr : Bool,
    { Status.running wovr r with done := true, msrRpt := c }.outcome ∈ completionStatus (some .msrrc) := by decide

/-- MCHRS completes with MCH_OK (43_mchbar_resolve.md R141). -/
theorem pciPart_listed : ∀ r ∈ reportsAt .mchrs .pciRd, ∀ wovr : Bool,
    { Status.running wovr r with done := true, mchOk := true }.outcome ∈ completionStatus (some .mchrs) := by decide

/-- WARN and MMIO_RPT when the MMIO part completes under a policy (44_mmio_reconcile.md R166 to R168, R170). -/
def mmioEndings (p : Policy) : List (Bool × MmioReport) :=
  [(false, .writtenLocked), (true, .lockedWithLimitsActive),
    match p with
    | .disable => (false, .alreadyReconciled)
    | .mirror  => (true, .lockedCannotMirror)]

/-- MMIORC and RUN complete with the report of the MMIO part (44_mmio_reconcile.md R162, 45_sequence.md R197). -/
theorem mmioPart_listed {i : Instr} {p : Policy} (hi : i.hasMmioPart p) :
    ∀ q ∈ stagesOf (.mmiorc p), ∀ r ∈ reportsAt i q, ∀ e ∈ mmioEndings p, ∀ wovr : Bool,
    { Status.running wovr r with done := true, warn := e.1, mmioRpt := e.2 }.outcome ∈ completionStatus (some i) := by
  obtain rfl | rfl := hi
  · cases p <;> decide
  · cases p <;> decide

/-! ### The step -/

theorem CompletionStatusListed.of_same {s t : State} (h : SameCommand s t) (hs : CompletionStatusListed s) :
    CompletionStatusListed t := by
  rw [h.eq]
  exact hs

theorem completionStatusListed_reset : CompletionStatusListed State.reset := fun _ hdone => by cases hdone

/-- Nothing is claimed while a command runs. -/
theorem completionStatusListed_of_running {t : State} (hq : t.seq ≠ .idle) : CompletionStatusListed t :=
  fun hb => absurd ((not_busy_iff t).mp hb) hq

theorem completionStatusListed_of_ended {i : Instr} {t : State} (hq : t.seq = .idle) (hd : decode t.cmd = .ok i)
    (h : t.status.outcome ∈ completionStatus (some i)) : CompletionStatusListed t := by
  intro _ _
  have hcommand : t.command = some i := by simp [State.command, hd]
  rw [statusWord_outcome hq, hcommand]
  exact h

/-- After the MSR part and the PCI part RUN goes on, and another command must end as its rule lists. -/
theorem completionStatusListed_afterPart {i : Instr} {q : Seq} {s : State} (hq : q ≠ .idle) (hd : decode s.cmd = .ok i)
    (h : (∀ p, i ≠ .run p) → { s.status with done := true }.outcome ∈ completionStatus (some i)) :
    CompletionStatusListed (afterPart i q s) := by
  obtain ⟨e, hrun⟩ | ⟨e, -⟩ := afterPart_cases i q s <;> rw [e]
  · exact completionStatusListed_of_ended rfl hd (h hrun)
  · exact completionStatusListed_of_running hq

theorem completionStatusListed_afterMsrPart {i : Instr} {q : Seq} {r : MsrReport × Bool} {s : State} (c : MsrReport)
    (wovr : Bool) (hi : i.hasMsrPart) (hd : decode s.cmd = .ok i) (hq : q ∈ stagesOf .msrrc) (hr : r ∈ reportsAt i q)
    (hc : c ∈ [MsrReport.alreadyEnabled, .written]) (hst : s.status = { Status.running wovr r with msrRpt := c }) :
    CompletionStatusListed (afterPart i .pciRd s) := by
  refine completionStatusListed_afterPart (by simp) hd fun hrun => ?_
  obtain rfl | ⟨p, rfl⟩ := hi
  · exact hst ▸ msrPart_listed q hq r hr c hc wovr
  · exact absurd rfl (hrun p)

theorem completionStatusListed_afterPciPart {i : Instr} {r : MsrReport × Bool} {s : State} (wovr : Bool)
    (hi : i.hasPciPart) (hd : decode s.cmd = .ok i) (hr : r ∈ reportsAt i .pciRd)
    (hst : s.status = { Status.running wovr r with mchOk := true }) :
    CompletionStatusListed (afterPart i .mmioRdLo s) := by
  refine completionStatusListed_afterPart (by simp) hd fun hrun => ?_
  obtain rfl | ⟨p, rfl⟩ := hi
  · exact hst ▸ pciPart_listed r hr wovr
  · exact absurd rfl (hrun p)

theorem completionStatusListed_afterMmioPart {i : Instr} {p : Policy} {q : Seq} {r : MsrReport × Bool} {t : State}
    (e : Bool × MmioReport) (wovr : Bool) (hi : i.hasMmioPart p) (hend : t.seq = .idle) (hd : decode t.cmd = .ok i)
    (hq : q ∈ stagesOf (.mmiorc p)) (hr : r ∈ reportsAt i q) (he : e ∈ mmioEndings p)
    (hst : t.status = { Status.running wovr r with done := true, warn := e.1, mmioRpt := e.2 }) :
    CompletionStatusListed t :=
  completionStatusListed_of_ended hend hd (hst ▸ mmioPart_listed hi q hq r hr e he wovr)

theorem completionStatusListed_raiseAccess {i : Instr} {q : Seq} {r : MsrReport × Bool} {wovr : Bool} {s : State}
    (hd : decode s.cmd = .ok i) (hq : q ∈ stagesOf i) (hr : r ∈ reportsAt i q) (hst : s.status = .running wovr r) :
    CompletionStatusListed (raiseAccess q s) :=
  completionStatusListed_of_ended rfl hd (by simpa [hst] using accessError_listed i q hq r hr wovr)

theorem completionStatusListed_raiseBaseDisabled {i : Instr} {r : MsrReport × Bool} {wovr : Bool} {s : State}
    (hi : i.hasPciPart) (hd : decode s.cmd = .ok i) (hr : r ∈ reportsAt i .pciRd) (hst : s.status = .running wovr r) :
    CompletionStatusListed (raiseBaseDisabled s) :=
  completionStatusListed_of_ended rfl hd (by simpa [hst] using baseDisabled_listed hi r hr wovr)

/-- Each of the three reports of a LOCKED mirror is one of its policy's endings. -/
theorem lockedOutcome_status (p : Policy) (lo hi : Word32) {s : State} (hw : s.status.warn = false) :
    ∃ e ∈ mmioEndings p,
      (lockedOutcome p lo hi s).status = { s.status with done := true, warn := e.1, mmioRpt := e.2 } := by
  obtain ⟨-, e⟩ | ⟨-, rfl, e⟩ | ⟨-, rfl, e⟩ := lockedOutcome_cases p lo hi s <;> rw [e]
  · exact ⟨(true, .lockedWithLimitsActive), by simp [mmioEndings], rfl⟩
  · exact ⟨(false, .alreadyReconciled), by simp [mmioEndings], by simp [hw]⟩
  · exact ⟨(true, .lockedCannotMirror), by simp [mmioEndings], rfl⟩

theorem completionStatusListed_lockedOutcome {i : Instr} {p : Policy} {q : Seq} {r : MsrReport × Bool} {wovr : Bool}
    {s : State} (lo hi : Word32) (hpart : i.hasMmioPart p) (hd : decode s.cmd = .ok i) (hq : q ∈ stagesOf (.mmiorc p))
    (hr : r ∈ reportsAt i q) (hst : s.status = .running wovr r) :
    CompletionStatusListed (lockedOutcome p lo hi s) := by
  have hwarn : s.status.warn = false := by rw [hst]; rfl
  obtain ⟨e, he, hstatus⟩ := lockedOutcome_status p lo hi hwarn
  obtain ⟨-, -, -, -, hcmd, hend⟩ := lockedOutcome_effect p lo hi s
  exact completionStatusListed_afterMmioPart e wovr hpart hend (hcmd ▸ hd) hq hr he (hst ▸ hstatus)

theorem completionStatusListed_acceptIllegal {w : Word32} {e : DecodeError} (hd : decode w = .error e) (s : State) :
    CompletionStatusListed (acceptIllegal w s) := by
  intro _ _
  have hcommand : (acceptIllegal w s).command = none := by simp [State.command, acceptIllegal, hd]
  have hst : (acceptIllegal w s).status =
      { Status.clear with done := true, fatal := true, err := .illegalCmd } := rfl
  rw [statusWord_outcome rfl, hcommand, hst]
  decide

theorem CompletionStatusListed.dropped {s : State} (hb : s.busy = true) : CompletionStatusListed (setWovr s) :=
  completionStatusListed_of_running ((busy_iff s).mp hb)

/-- A command that the decoder answers is read back from the word its acceptance puts in CMD. -/
theorem decode_encode_of_decode {w : Word32} {i : Instr} (h : decode w = .ok i) : decode (encode i) = .ok i := by
  rw [(encodeOfDecodeIsTheWord w i h).2, h]

/-- A command's acceptance or stage: it goes on, or it ends with a STATUS its rule lists. -/
theorem exec_completionStatusListed {i : Instr} {s t : State} (hinv : RegisterInv s) (hs : CompletionStatusListed s)
    (running : s.busy = true → decode s.cmd = .ok i) (issued : s.busy = false → ∃ w, decode w = .ok i)
    (h : exec i s = .next t) : CompletionStatusListed t := by
  have at_stage : s.seq ≠ .idle →
      decode s.cmd = .ok i ∧ ∃ wovr, ∃ r ∈ reportsAt i s.seq, s.status = .running wovr r := fun hq =>
    have hb := (busy_iff s).mpr hq
    ⟨running hb, hinv.status_running hb (running hb)⟩
  cases exec_cases h with
  | codec hq hi _ ht =>
    obtain ⟨w, hw⟩ := issued ((not_busy_iff s).mpr hq)
    subst ht
    exact completionStatusListed_of_ended rfl (decode_encode_of_decode hw) (codec_listed hi)
  | start _ first hfirst ht =>
    subst ht
    exact completionStatusListed_of_running fun hq => idle_notMem_stagesOf i (hq ▸ List.mem_of_head? hfirst)
  | waiting _ _ ht => exact ht ▸ hs.of_same (sameCommand_dropDraw s)
  | msrToWrite _ _ _ _ _ ht | lowRead _ _ _ _ _ ht | foundUnlocked _ _ _ _ _ _ ht | lowWritten _ _ _ _ _ ht =>
    exact ht ▸ completionStatusListed_of_running (by simp [unlockedPrepare])
  | readErr _ _ hmem _ _ ht =>
    obtain ⟨hd, wovr, r, hr, hst⟩ := at_stage fun hq => idle_notMem_stagesOf i (hq ▸ hmem)
    exact ht ▸ completionStatusListed_raiseAccess (by simpa using hd) hmem hr (by simpa using hst)
  | msrEnabled _ hq hi _ _ ht =>
    obtain ⟨hd, wovr, r, hr, hst⟩ := at_stage (by simp [hq])
    exact ht ▸ completionStatusListed_afterMsrPart .alreadyEnabled wovr hi (by simpa using hd)
      (by simp [hq, stagesOf]) hr (by simp) (by simp [hst])
  | msrWritten _ hq hi _ ht =>
    obtain ⟨hd, wovr, r, hr, hst⟩ := at_stage (by simp [hq])
    exact ht ▸ completionStatusListed_afterMsrPart .written wovr hi (by simpa using hd)
      (by simp [hq, stagesOf]) hr (by simp) (by simp [hst])
  | msrWriteErr _ hq hi _ ht =>
    obtain ⟨hd, wovr, r, hr, hst⟩ := at_stage (by simp [hq])
    have hmem : .msrWr ∈ stagesOf i := by obtain rfl | ⟨p, rfl⟩ := hi <;> simp [stagesOf]
    exact ht ▸ completionStatusListed_raiseAccess (by simpa using hd) hmem (hq ▸ hr) (by simpa using hst)
  | resolved _ hq hi _ _ ht =>
    obtain ⟨hd, wovr, r, hr, hst⟩ := at_stage (by simp [hq])
    exact ht ▸ completionStatusListed_afterPciPart wovr hi (by simpa using hd) (hq ▸ hr) (by simp [hst])
  | disabled _ hq hi _ _ ht =>
    obtain ⟨hd, wovr, r, hr, hst⟩ := at_stage (by simp [hq])
    exact ht ▸ completionStatusListed_raiseBaseDisabled hi (by simpa using hd) (hq ▸ hr) (by simpa using hst)
  | foundLocked _ p hq hi _ _ ht =>
    obtain ⟨hd, wovr, r, hr, hst⟩ := at_stage (by simp [hq])
    exact ht ▸ completionStatusListed_lockedOutcome _ _ hi (by simpa using hd) (by simp [hq, stagesOf]) hr
      (by simpa using hst)
  | lowWriteErr _ p hq hi _ ht =>
    obtain ⟨hd, wovr, r, hr, hst⟩ := at_stage (by simp [hq])
    have hmem : .mmioWrLo ∈ stagesOf i := by obtain rfl | rfl := hi <;> simp [stagesOf]
    exact ht ▸ completionStatusListed_raiseAccess (by simpa using hd) hmem (hq ▸ hr) (by simpa using hst)
  | highWritten _ p hq hi _ ht =>
    obtain ⟨hd, wovr, r, hr, hst⟩ := at_stage (by simp [hq])
    exact ht ▸ completionStatusListed_afterMmioPart (false, .writtenLocked) wovr hi rfl (by simpa using hd)
      (by simp [hq, stagesOf]) hr (by simp [mmioEndings]) (by simp [hst, Status.running, Status.clear])
  | highWriteErr _ p hq hi _ ht =>
    obtain ⟨hd, wovr, r, hr, hst⟩ := at_stage (by simp [hq])
    have hmem : .mmioWrHi ∈ stagesOf i := by obtain rfl | rfl := hi <;> simp [stagesOf]
    exact ht ▸ completionStatusListed_raiseAccess (by simpa using hd) hmem (hq ▸ hr) (by simpa using hst)

/-- Settles O53: other agents leave a completed command's STATUS and CMD, a dropped write meets a running command, a
reset clears DONE, and the command's own step is `exec_completionStatusListed`. -/
theorem stepKeepsCompletionStatusListed : Obligations.StepKeepsCompletionStatusListed := by
  intro s t hinv hs h
  cases step_commandStep h with
  | same h => exact hs.of_same h
  | dropped hb h => exact (CompletionStatusListed.dropped hb).of_same h
  | reset h => exact completionStatusListed_reset.of_same h
  | illegal w e _ hd h => exact (completionStatusListed_acceptIllegal hd s).of_same h
  | exec i s₀ h₀ running issued ht =>
    have hb : s₀.busy = s.busy := by simp [State.busy, h₀.seq]
    rw [← hb] at running issued
    rw [← h₀.cmd] at running
    exact exec_completionStatusListed (hinv.of_same h₀) (hs.of_same h₀) running issued ht

end Sys2Proof.Machine
end

section
/-! SUPPORT. The stages of a command's column (10_state.md R36), and the MSR part: its two stages by the device's
answer, and its whole effect when both transactions answer `ok`. -/

namespace Sys2Proof.Machine

/-! ### A command at each of its stages (10_state.md R36) -/

theorem exec_msrRd {i : Instr} {s : State} (hi : i.hasMsrPart) (hq : s.seq = .msrRd) :
    exec i s = .next (stageMsrRd (afterPart i .pciRd) s) := by
  obtain rfl | ⟨p, rfl⟩ := hi
  · simp only [exec, execMsrrc, hq]; rfl
  · simp only [exec, execRun, hq]; rfl

theorem exec_msrWr {i : Instr} {s : State} (hi : i.hasMsrPart) (hq : s.seq = .msrWr) :
    exec i s = .next (stageMsrWr (afterPart i .pciRd) s) := by
  obtain rfl | ⟨p, rfl⟩ := hi
  · simp only [exec, execMsrrc, hq]; rfl
  · simp only [exec, execRun, hq]; rfl

theorem exec_pciRd {i : Instr} {s : State} (hi : i.hasPciPart) (hq : s.seq = .pciRd) :
    exec i s = .next (stagePciRd (afterPart i .mmioRdLo) s) := by
  obtain rfl | ⟨p, rfl⟩ := hi
  · simp only [exec, execMchrs, hq]; rfl
  · simp only [exec, execRun, hq]; rfl

theorem exec_mmioRdLo {i : Instr} {p : Policy} {s : State} (hi : i.hasMmioPart p) (hq : s.seq = .mmioRdLo) :
    exec i s = .next (stageMmioRdLo s) := by
  obtain rfl | rfl := hi <;> simp only [exec, execMmiorc, execRun, hq]

theorem exec_mmioRdHi {i : Instr} {p : Policy} {s : State} (hi : i.hasMmioPart p) (hq : s.seq = .mmioRdHi) :
    exec i s = .next (stageMmioRdHi p s) := by
  obtain rfl | rfl := hi <;> simp only [exec, execMmiorc, execRun, hq]

theorem exec_mmioWrLo {i : Instr} {p : Policy} {s : State} (hi : i.hasMmioPart p) (hq : s.seq = .mmioWrLo) :
    exec i s = .next (stageMmioWrLo s) := by
  obtain rfl | rfl := hi <;> simp only [exec, execMmiorc, execRun, hq]

theorem exec_mmioWrHi {i : Instr} {p : Policy} {s : State} (hi : i.hasMmioPart p) (hq : s.seq = .mmioWrHi) :
    exec i s = .next (stageMmioWrHi s) := by
  obtain rfl | rfl := hi <;> simp only [exec, execMmiorc, execRun, hq]

/-! ### The MSR stages -/

/-- Settles O13: the three ends of the read, `err`, both enable bits set, and otherwise (42_msr_reconcile.md R122). -/
theorem msrReadStage : Obligations.MsrReadStage := by
  intro i s hi hq
  rw [exec_msrRd hi hq]
  refine ⟨fun landed hd => ?err, fun any hd hset => ?enabled, fun any hd hset => ?toWrite⟩
  case err => simp [stageMsrRd, msrRead_err _ hd, record, raiseAccess, raise, complete, afterAccessError]
  case enabled =>
    have hv : allSet s.msr reqMask = true := by simpa [allSet, reqMask_eq] using hset
    simp [stageMsrRd, msrRead_ok _ hd, hv, record, setMsrReport]
  case toWrite =>
    have hv : allSet s.msr reqMask = false := by simpa [allSet, reqMask_eq] using hset
    simp [stageMsrRd, msrRead_ok _ hd, hv, record, goto]

/-- Settles O14: after `ok` the MSR holds the image written; after `err` the draw says whether it does
(42_msr_reconcile.md R123, 20_memory.md R64). -/
theorem msrWriteStage : Obligations.MsrWriteStage := by
  intro i s hi hq
  rw [exec_msrWr hi hq, ← reqMask_eq]
  refine ⟨fun any hd => ?ok, fun landed hd => ?err⟩
  case ok => simp [stageMsrWr, msrWrite_ok _ _ hd, orMask, record, performMsrWrite, setMsrReport]
  case err =>
    cases landed <;> simp [stageMsrWr, msrWrite_err _ _ hd, orMask, record, landMsrWrite, performMsrWrite,
      raiseAccess, raise, complete, afterAccessError]

end Sys2Proof.Machine
end

section
/-! SUPPORT. A part of a command against its pseudocode: the bus primitives whatever SEQ holds, a transaction that is
answered, and each part run stage by stage. -/

namespace Sys2Proof.Machine

/-! ### SEQ is no input of the bus primitives -/

theorem nextDraw_goto (q : Seq) (s : State) : nextDraw (goto q s) = nextDraw s := nextDraw_congr rfl rfl

theorem dropDraw_goto (q : Seq) (s : State) : dropDraw (goto q s) = goto q (dropDraw s) := by
  unfold dropDraw
  cases h : s.draws <;> simp only [goto, h]

theorem performMemWrite_goto (addr : Word64) (w : Word32) (q : Seq) (s : State) :
    performMemWrite addr w (goto q s) = goto q (performMemWrite addr w s) := by
  have hlock : (goto q s).locked = s.locked := locked_congr rfl
  simp only [performMemWrite, hlock, goto_cfg]
  split_ifs <;> rfl

theorem landMemWrite_goto (landed : Bool) (addr : Word64) (w : Word32) (q : Seq) (s : State) :
    landMemWrite landed addr w (goto q s) = goto q (landMemWrite landed addr w s) := by
  have hhits : (goto q s).hitsMirror addr = s.hitsMirror addr := rfl
  simp only [landMemWrite, hhits, performMemWrite_goto]
  split_ifs <;> rfl

theorem landMsrWrite_goto (landed : Bool) (v : Word64) (q : Seq) (s : State) :
    landMsrWrite landed v (goto q s) = goto q (landMsrWrite landed v s) := by cases landed <;> rfl

/-- An answer with SEQ set in the state after it. -/
def Answer.withSeq {α : Type} (q : Seq) : Answer α → Answer α
  | .ok v s    => .ok v (goto q s)
  | .err s     => .err (goto q s)
  | .waiting s => .waiting (goto q s)

theorem msrRead_goto (stage q : Seq) (s : State) : msrRead stage (goto q s) = (msrRead stage s).withSeq q := by
  simp only [msrRead, nextDraw_goto, dropDraw_goto]
  cases nextDraw s <;> rfl

theorem msrWrite_goto (stage : Seq) (v : Word64) (q : Seq) (s : State) :
    msrWrite stage v (goto q s) = (msrWrite stage v s).withSeq q := by
  simp only [msrWrite, nextDraw_goto, dropDraw_goto, landMsrWrite_goto]
  cases nextDraw s <;> rfl

theorem pciRead_goto (stage q : Seq) (s : State) : pciRead stage (goto q s) = (pciRead stage s).withSeq q := by
  simp only [pciRead, nextDraw_goto, dropDraw_goto]
  cases nextDraw s <;> rfl

theorem memRead_goto (stage : Seq) (addr : Word64) (q : Seq) (s : State) :
    memRead stage addr (goto q s) = (memRead stage addr s).withSeq q := by
  simp only [memRead, nextDraw_goto, dropDraw_goto]
  cases nextDraw s <;> rfl

theorem memWrite_goto (stage : Seq) (addr : Word64) (w : Word32) (q : Seq) (s : State) :
    memWrite stage addr w (goto q s) = (memWrite stage addr w s).withSeq q := by
  simp only [memWrite, nextDraw_goto, dropDraw_goto, performMemWrite_goto, landMemWrite_goto]
  cases nextDraw s <;> rfl

/-! ### A transaction that is answered -/

theorem Answered.congr {n : Nat} {s t : State} (hs : Answered n s) (h : t.draws = s.draws) : Answered n t := by
  rw [Answered, h]
  exact hs

theorem Answered.nextDraw_ne {n : Nat} {s : State} (h : Answered (n + 1) s) : nextDraw s ≠ .noAnswer := by
  obtain ⟨hlen, hds⟩ := h
  cases hd : s.draws with
  | nil => simp [hd] at hlen
  | cons d ds =>
    rw [nextDraw_cons hd]
    exact hds d (by simp [hd])

theorem Answered.dropDraw {n : Nat} {s : State} (h : Answered (n + 1) s) : Answered n (dropDraw s) := by
  obtain ⟨hlen, hds⟩ := h
  rw [Answered, dropDraw_draws]
  cases hd : s.draws with
  | nil => simp [hd] at hlen
  | cons d ds =>
    rw [hd] at hlen hds
    exact ⟨Nat.le_of_succ_le_succ hlen, fun x hx => hds x (List.mem_cons_of_mem d hx)⟩

/-- An answer, `ok` or `err`, to a transaction issued in `s`; after `ok` RRC's registers are as they were and `n` more
transactions are answered. -/
def Answer.Settled {α : Type} (n : Nat) (s : State) (x : Answer α) : Prop :=
  (∃ t, x = .err t) ∨ ∃ v t, x = .ok v t ∧ Answered n t ∧ SameRegisters s t

theorem sameRegisters_dropDraw (s : State) : SameRegisters s (dropDraw s) := by constructor <;> simp

theorem SameRegisters.trans {s t u : State} (h : SameRegisters s t) (h' : SameRegisters t u) : SameRegisters s u := by
  obtain ⟨hcmd, hstatus, ha, hr, hmsrin, hmsrimg, hcfgraw, hbase, haddr, hmmioimg, hnewimg, hseq, htlo⟩ := h'
  constructor <;> simp only [*, h.cmd, h.status, h.a, h.r, h.msrin, h.msrimg, h.cfgraw, h.base, h.addr, h.mmioimg,
    h.newimg, h.seq, h.tlo]

/-- A transaction is settled when `ok` leaves the draws and RRC's registers of `dropDraw s`. -/
theorem settled_of_answers {α : Type} {n : Nat} {s : State} {x : Answer α} (h : Answered (n + 1) s)
    (hok : ∀ any, nextDraw s = .ok any →
      ∃ v t, x = .ok v t ∧ t.draws = (dropDraw s).draws ∧ SameRegisters (dropDraw s) t)
    (herr : ∀ landed, nextDraw s = .err landed → ∃ t, x = .err t) : x.Settled n s := by
  cases hd : nextDraw s with
  | noAnswer => exact absurd hd h.nextDraw_ne
  | err landed => exact .inl (herr landed hd)
  | ok any =>
    obtain ⟨v, t, rfl, hdraws, hregs⟩ := hok any hd
    exact .inr ⟨v, t, rfl, h.dropDraw.congr hdraws, (sameRegisters_dropDraw s).trans hregs⟩

theorem msrRead_settled (q : Seq) {n : Nat} {s : State} (h : Answered (n + 1) s) : (msrRead q s).Settled n s :=
  settled_of_answers h (fun _ hd => ⟨_, _, msrRead_ok q hd, rfl, by constructor <;> rfl⟩)
    (fun _ hd => ⟨_, msrRead_err q hd⟩)

theorem msrWrite_settled (q : Seq) (v : Word64) {n : Nat} {s : State} (h : Answered (n + 1) s) :
    (msrWrite q v s).Settled n s :=
  settled_of_answers h (fun _ hd => ⟨_, _, msrWrite_ok q v hd, rfl, by constructor <;> rfl⟩)
    (fun _ hd => ⟨_, msrWrite_err q v hd⟩)

theorem pciRead_settled (q : Seq) {n : Nat} {s : State} (h : Answered (n + 1) s) : (pciRead q s).Settled n s :=
  settled_of_answers h (fun _ hd => ⟨_, _, pciRead_ok q hd, rfl, by constructor <;> rfl⟩)
    (fun _ hd => ⟨_, pciRead_err q hd⟩)

theorem memRead_settled (q : Seq) (addr : Word64) {n : Nat} {s : State} (h : Answered (n + 1) s) :
    (memRead q addr s).Settled n s :=
  settled_of_answers h (fun _ hd => ⟨_, _, memRead_ok q addr hd, rfl, by constructor <;> rfl⟩)
    (fun _ hd => ⟨_, memRead_err q addr hd⟩)

theorem memWrite_settled (q : Seq) (addr : Word64) (w : Word32) {n : Nat} {s : State} (h : Answered (n + 1) s) :
    (memWrite q addr w s).Settled n s :=
  settled_of_answers h (fun _ hd => ⟨_, _, memWrite_ok q addr w hd, by simp, by constructor <;> simp⟩)
    (fun _ hd => ⟨_, memWrite_err q addr w hd⟩)

/-! ### A part of a command, stage by stage -/

/-- From `s` with SEQ = `q`, at most `n` steps of `i` take a part of the command to the end `p` says; `done` is what
follows when it goes on. SEQ in `s` and in the states of `p` is not looked at: the pseudocode keeps none. -/
inductive PartRuns (i : Instr) (done : State → State) : Nat → Seq → State → PartResult → Prop
  /-- The command ends in this step. -/
  | ended {n : Nat} {q : Seq} {s t : State} (hq : q ≠ .idle) (h : exec i (goto q s) = .next t)
      (hend : t.seq = .idle) : PartRuns i done (n + 1) q s (.ended t)
  /-- The part succeeds in this step. -/
  | goesOn {n : Nat} {q : Seq} {s t : State} (hq : q ≠ .idle) (h : exec i (goto q s) = .next (done (goto q t))) :
      PartRuns i done (n + 1) q s (.goesOn t)
  /-- This step goes on to another stage of the part. -/
  | stage {n : Nat} {q next : Seq} {s u : State} {p : PartResult} (hq : q ≠ .idle)
      (h : exec i (goto q s) = .next (goto next u)) (rest : PartRuns i done n next u p) : PartRuns i done (n + 1) q s p

/-- The MSR part is its stages in a row (42_msr_reconcile.md R121 to R123). -/
theorem msrPart_runs {i : Instr} {m n : Nat} {s : State} (hi : i.hasMsrPart) (ha : Answered (m + 2) s) :
    PartRuns i (afterPart i .pciRd) (n + 2) .msrRd s (msrPart s) := by
  have hread := exec_msrRd (s := goto .msrRd s) hi rfl
  rw [stageMsrRd, msrRead_goto] at hread
  rw [msrPart]
  obtain ⟨t, hr⟩ | ⟨v, t, hr, ha, -⟩ := msrRead_settled .msrRd ha
  · rw [hr] at hread ⊢
    exact .ended (by decide) hread rfl
  · simp only [hr, Answer.withSeq] at hread ⊢
    split_ifs at hread ⊢
    · exact .goesOn (by decide) hread
    · refine .stage (u := { t with msrin := v }) (by decide) hread ?_
      have hwrite := exec_msrWr (s := goto .msrWr { t with msrin := v }) hi rfl
      rw [stageMsrWr, msrWrite_goto, goto_msrin] at hwrite
      obtain ⟨u, hw⟩ | ⟨_, u, hw, -⟩ := msrWrite_settled .msrWr (orMask v reqMask) (s := { t with msrin := v }) ha
        <;> rw [hw] at hwrite ⊢
      · exact .ended (by decide) hwrite rfl
      · exact .goesOn (by decide) hwrite

/-- The PCI part is its stage (43_mchbar_resolve.md R142). -/
theorem pciPart_runs {i : Instr} {m n : Nat} {s : State} (hi : i.hasPciPart) (ha : Answered (m + 1) s) :
    PartRuns i (afterPart i .mmioRdLo) (n + 1) .pciRd s (pciPart s) := by
  have hread := exec_pciRd (s := goto .pciRd s) hi rfl
  rw [stagePciRd, pciRead_goto] at hread
  rw [pciPart]
  obtain ⟨t, hr⟩ | ⟨d, t, hr, -⟩ := pciRead_settled .pciRd ha
  · rw [hr] at hread ⊢
    exact .ended (by decide) hread rfl
  · simp only [hr, Answer.withSeq] at hread ⊢
    split_ifs at hread ⊢
    · exact .goesOn (by decide) hread
    · exact .ended (by decide) hread rfl

/-- The two word writes are the two write stages in a row (44_mmio_reconcile.md R169 to R171). -/
theorem mmioWrites_runs {i : Instr} {p : Policy} {m n : Nat} {s : State} (hi : i.hasMmioPart p)
    (ha : Answered (m + 2) s) : PartRuns i complete (n + 2) .mmioWrLo s (mmioWrites s) := by
  have hlow := exec_mmioWrLo (s := goto .mmioWrLo s) hi rfl
  rw [stageMmioWrLo, memWrite_goto, goto_addr, goto_newimg] at hlow
  rw [mmioWrites]
  obtain ⟨t, hl⟩ | ⟨_, t, hl, ha, hregs⟩ := memWrite_settled .mmioWrLo s.addr (lo32 s.newimg) ha
  · rw [hl] at hlow ⊢
    exact .ended (by decide) hlow rfl
  · simp only [hl] at hlow ⊢
    refine .stage (u := t) (by decide) hlow ?_
    have hhigh := exec_mmioWrHi (s := goto .mmioWrHi t) hi rfl
    have haddr : (goto .mmioWrHi t).highAddr = s.highAddr := congrArg (· + highWordOffset) hregs.addr
    rw [stageMmioWrHi, memWrite_goto, haddr, goto_newimg, hregs.newimg] at hhigh
    obtain ⟨u, hh⟩ | ⟨_, u, hh, -⟩ := memWrite_settled .mmioWrHi s.highAddr (hi32 s.newimg) ha
      <;> rw [hh] at hhigh ⊢
    · exact .ended (by decide) hhigh rfl
    · exact .goesOn (by decide) hhigh

/-- The MMIO part is its stages in a row (44_mmio_reconcile.md R162 to R168). -/
theorem mmioPart_runs {i : Instr} {p : Policy} {m n : Nat} {s : State} (hi : i.hasMmioPart p)
    (ha : Answered (m + 4) s) : PartRuns i complete (n + 4) .mmioRdLo s (mmioPart p s) := by
  have hlow := exec_mmioRdLo (s := goto .mmioRdLo s) hi rfl
  rw [stageMmioRdLo, memRead_goto, goto_addr] at hlow
  rw [mmioPart]
  obtain ⟨t, hl⟩ | ⟨lo, t, hl, ha, hregs⟩ := memRead_settled .mmioRdLo s.addr ha
  · rw [hl] at hlow ⊢
    exact .ended (by decide) hlow rfl
  · simp only [hl] at hlow ⊢
    refine .stage (u := { t with tlo := lo }) (by decide) hlow ?_
    have hhigh := exec_mmioRdHi (s := goto .mmioRdHi { t with tlo := lo }) hi rfl
    have haddr : (goto .mmioRdHi { t with tlo := lo }).highAddr = s.highAddr :=
      congrArg (· + highWordOffset) hregs.addr
    rw [stageMmioRdHi, memRead_goto, haddr, goto_tlo] at hhigh
    obtain ⟨u, hh⟩ | ⟨w, u, hh, ha, hregs'⟩ :=
      memRead_settled .mmioRdHi s.highAddr (s := { t with tlo := lo }) ha
    · rw [hh] at hhigh ⊢
      exact .ended (by decide) hhigh rfl
    · simp only [hh, Answer.withSeq] at hhigh ⊢
      cases hlock : lockBit w with
      | true =>
        simp only [hlock, if_true] at hhigh ⊢
        obtain ⟨he, e⟩ | ⟨he, rfl, e⟩ | ⟨he, rfl, e⟩ :=
            lockedOutcome_cases p lo w { goto .mmioRdHi u with mmioimg := joinWords w lo } <;>
          rw [e] at hhigh <;> simp only [he] <;> exact .goesOn (by decide) hhigh
      | false =>
        have himg : u.msrimg = s.msrimg := hregs'.msrimg.trans hregs.msrimg
        simp only [hlock, Bool.false_eq_true, if_false, ← himg] at hhigh ⊢
        exact .stage (u := { u with mmioimg := joinWords w lo, newimg := writeImage p u.msrimg }) (by decide) hhigh
          (mmioWrites_runs hi ha)

end Sys2Proof.Machine
end

section
/-! SUPPORT. The host that issues one command and waits (log entries 5, 6): the run of a command of one part, and MSRRC
where both transactions are answered `ok`. -/

namespace Sys2Proof.Machine

/-! ### The run of a command of one part -/

/-- With no schedule and no program left, nothing moves while SEQ = IDLE. -/
theorem run_of_rest {s : State} (hq : s.seq = .idle) (hturns : s.turns = []) (hprog : s.program = []) (k : Nat) :
    Host.Core.run core k s = .next s := by
  have hhost : hostTurn s = .next s := by simp [hostTurn, hprog]
  have hstep : core.step s = .next s := (step_of_idle_unscheduled hq hturns).trans hhost
  induction k with
  | zero => rfl
  | succ k ih =>
    simp only [Host.Core.run, hstep]
    exact ih

/-- A part after which the command completes, run by the controller alone, is the whole of the command. -/
theorem PartRuns.run {i : Instr} {n : Nat} {q : Seq} {s : State} {p : PartResult} (h : PartRuns i complete n q s p)
    (hc : s.command = some i) (hturns : s.turns = []) (hprog : s.program = []) :
    Host.Core.run core n (goto q s) = .next p.finish := by
  induction h with
  | @ended n q s t hq h hend =>
    obtain ⟨-, -, -, hturns', hprog', -⟩ := exec_frame h
    rw [run_succ_of_exec (s := goto q s) n hc hq hturns h]
    exact run_of_rest hend (hturns'.trans hturns) (hprog'.trans hprog) n
  | @goesOn n q s t hq h =>
    obtain ⟨-, -, -, hturns', hprog', -⟩ := exec_frame h
    rw [run_succ_of_exec (s := goto q s) n hc hq hturns h]
    exact run_of_rest rfl (hturns'.trans hturns) (hprog'.trans hprog) n
  | @stage n q next s u p hq h _ ih =>
    obtain ⟨-, -, -, hturns', hprog', -, hbusy, -⟩ := exec_frame h
    have hcmd : u.cmd = s.cmd := (hbusy ((busy_iff _).mpr hq)).1
    rw [run_succ_of_exec (s := goto q s) n hc hq hturns h]
    exact ih (by rw [State.command, hcmd]; exact hc) (hturns'.trans hturns) (hprog'.trans hprog)

/-- The host's step that issues a command with stages accepts it at its first stage (30_encoding.md R86, R89). -/
theorem step_of_issue {i : Instr} {first : Seq} {s : State} {ops : List HostOp} (hi : (stagesOf i).head? = some first)
    (hq : s.seq = .idle) (hturns : s.turns = []) (hprog : s.program = .issue i :: ops) :
    step s = .next (goto first (accept (encode i) { s with program := ops })) := by
  have hd : decode (lo32 (zext64 (encode i))) = .ok i := by
    rw [lo32_zext64]
    exact decode_encode_of_stages (List.mem_of_head? hi)
  calc step s = hostOperation (.issue i) { s with program := ops } :=
        (step_of_idle_unscheduled hq hturns).trans (hostTurn_of_cons hprog)
    _ = exec i { s with program := ops } := hostWrite_cmd_of_decode_ok hq hd
    _ = _ := exec_start_of_idle hq hi

/-- A command of one part, issued by a host that waits, leaves the state its pseudocode gives. -/
theorem run_of_issue {i : Instr} {first : Seq} {n : Nat} {s : State} {p : PartResult}
    (hi : (stagesOf i).head? = some first) (hq : s.seq = .idle) (hturns : s.turns = []) (hprog : s.program = [.issue i])
    (h : PartRuns i complete n first (accept (encode i) { s with program := [] }) p) :
    Host.Core.run core (n + 1) s = .next p.finish := by
  have hd : decode (encode i) = .ok i := decode_encode_of_stages (List.mem_of_head? hi)
  have hstep : core.step s = _ := step_of_issue hi hq hturns hprog
  simp only [Host.Core.run, hstep]
  exact h.run (by simp only [State.command, accept_cmd, hd]) hturns rfl

/-- Settles O59: each of the three commands is one part, run stage by stage. -/
theorem standaloneCommandsRefineTheirPseudocode : Obligations.StandaloneCommandsRefineTheirPseudocode := by
  intro i s hi hq hturns hprog ha
  obtain rfl | rfl | ⟨p, rfl⟩ := hi
  · exact run_of_issue (n := 4) rfl hq hturns hprog (msrPart_runs (m := 2) (.inl rfl) ha)
  · exact run_of_issue (n := 4) rfl hq hturns hprog (pciPart_runs (m := 3) (.inl rfl) ha)
  · exact run_of_issue (n := 4) rfl hq hturns hprog (mmioPart_runs (m := 0) (.inl rfl) ha)

/-! ### MSRRC where both transactions are answered `ok` (42_msr_reconcile.md R127) -/

/-- REQ_MASK has the two enable bits and no other (42_msr_reconcile.md R120). -/
theorem getLsbD_reqMask {j : Nat} (hj : j < 64) : reqMask.getLsbD j = decide (j = 15 ∨ j = 47) := by
  rw [reqMask, BitVec.getLsbD_or, getLsbD_oneBit 15 hj, getLsbD_oneBit 47 hj, Bool.decide_or]

/-- The masking test asks for both enable bits (41_codec.md R105, 42_msr_reconcile.md R120). -/
theorem allSet_reqMask_iff (v : Word64) :
    allSet v reqMask = true ↔ v.getLsbD 15 = true ∧ v.getLsbD 47 = true := by
  rw [allSet, beq_iff_eq]
  constructor
  · intro h
    have bit (j : Nat) (hj : j < 64) : (v.getLsbD j && decide (j = 15 ∨ j = 47)) = decide (j = 15 ∨ j = 47) := by
      rw [← getLsbD_reqMask hj, ← BitVec.getLsbD_and, h]
    exact ⟨by simpa using bit 15 (by decide), by simpa using bit 47 (by decide)⟩
  · rintro ⟨h15, h47⟩
    refine BitVec.eq_of_getLsbD_eq fun j hj => ?_
    rw [BitVec.getLsbD_and, getLsbD_reqMask hj]
    by_cases hbit : j = 15 ∨ j = 47
    · obtain rfl | rfl := hbit <;> simp [*]
    · simp [hbit]

/-- The masking set makes both enable bits 1 and keeps every other bit. -/
theorem getLsbD_orMask_reqMask (v : Word64) {j : Nat} (hj : j < 64) :
    (orMask v reqMask).getLsbD j = if j = 15 ∨ j = 47 then true else v.getLsbD j := by
  rw [orMask, BitVec.getLsbD_or, getLsbD_reqMask hj]
  by_cases hbit : j = 15 ∨ j = 47 <;> simp [hbit]

/-- The MSR part where the read returns both enable bits: no write. -/
theorem msrPart_enabled {s : State} {any : Word32} (hd : nextDraw s = .ok any) (hv : allSet s.msr reqMask = true) :
    msrPart s = .goesOn (setMsrReport .alreadyEnabled
      { record .msrRd (.msrRead s.cfg.msrIndex) (.value64 s.msr) (dropDraw s) with
        msrin := s.msr, msrimg := s.msr }) := by
  simp [msrPart, msrRead_ok _ hd, hv]

/-- The MSR part where the read returns an enable bit 0 and the write is answered `ok`. -/
theorem msrPart_written {s : State} {any any' : Word32} (hd : nextDraw s = .ok any)
    (hd' : nextDraw (dropDraw s) = .ok any') (hv : allSet s.msr reqMask = false) :
    msrPart s = .goesOn (setMsrReport .written
      { record .msrWr (.msrWrite s.cfg.msrIndex (orMask s.msr reqMask)) .ok (performMsrWrite (orMask s.msr reqMask)
          (dropDraw { record .msrRd (.msrRead s.cfg.msrIndex) (.value64 s.msr) (dropDraw s) with msrin := s.msr })) with
        msrimg := orMask s.msr reqMask }) := by
  have hwrite := msrWrite_ok .msrWr (orMask s.msr reqMask) (any := any')
    (s := { record .msrRd (.msrRead s.cfg.msrIndex) (.value64 s.msr) (dropDraw s) with msrin := s.msr }) hd'
  rw [msrPart, msrRead_ok _ hd]
  simp only [hv, Bool.false_eq_true, if_false]
  rw [hwrite]
  simp

/-- Settles O15: `run_of_issue` gives the whole MSR part: no write where both enable bits are set, one elsewhere. -/
theorem msrReconcileWritesOnceOrNever : Obligations.MsrReconcileWritesOnceOrNever := by
  intro s w₁ w₂ ds hq hturns hprog hdraws
  generalize hs₀ : accept (encode .msrrc) { s with program := [] } = s₀
  have hdraws₀ : s₀.draws = .ok w₁ :: .ok w₂ :: ds := by rw [← hs₀, ← hdraws]; rfl
  have hmsr₀ : s₀.msr = s.msr := by rw [← hs₀]; rfl
  have hd : nextDraw s₀ = .ok w₁ := nextDraw_cons hdraws₀
  have hd' : nextDraw (dropDraw s₀) = .ok w₂ :=
    nextDraw_cons (ds := ds) (by rw [dropDraw_draws, hdraws₀, List.tail_cons])
  have ha : Answered 2 s₀ := by simp [Answered, hdraws₀]
  have hrun : Host.Core.run core 3 s = .next (msrPart s₀).finish := by
    subst hs₀
    exact run_of_issue (n := 2) rfl hq hturns hprog (msrPart_runs (m := 0) (.inl rfl) ha)
  refine ⟨_, hrun, ?_⟩
  cases hv : allSet s₀.msr reqMask with
  | true =>
    have hset := (allSet_reqMask_iff s.msr).mp (hmsr₀ ▸ hv)
    rw [msrPart_enabled hd hv, hmsr₀, ← hs₀]
    refine ⟨?_, ?_, ?_, ?_, fun _ => ?_, fun h => absurd hset h⟩ <;> simp [PartResult.finish, Status.clear]
  | false =>
    have hset := mt (allSet_reqMask_iff s.msr).mpr (by simp [← hmsr₀, hv])
    rw [msrPart_written hd hd' hv, hmsr₀, ← hs₀]
    refine ⟨?_, ?_, ?_, ?_, fun h => absurd h hset, fun _ => ⟨?_, ?_, fun _ => getLsbD_orMask_reqMask s.msr⟩⟩ <;>
      simp [PartResult.finish, Status.clear]

end Sys2Proof.Machine
end

section
/-! SUPPORT. The PCI part: its stage by the device's answer, the resolved address as a number, and the MCHRS of a host
that waits. -/

namespace Sys2Proof.Machine

/-! ### The PCI stage (43_mchbar_resolve.md R142) -/

/-- Settles O17: the three ends of the read, `err`, ENABLED = 0 and ENABLED = 1. -/
theorem pciReadStage : Obligations.PciReadStage := by
  intro i s hi hq
  rw [exec_pciRd hi hq]
  refine ⟨fun landed hd => ?err, fun any hd hbit => ?disabled, fun any hd hbit => ?resolved⟩
  case err => simp [stagePciRd, pciRead_err _ hd, record, raiseAccess, raise, complete, afterAccessError]
  case disabled =>
    have hv : baseEnabled s.pci = false := (baseEnabled_eq _).trans hbit
    simp [stagePciRd, pciRead_ok _ hd, hv, record, raiseBaseDisabled, raise, complete]
  case resolved =>
    have hv : baseEnabled s.pci = true := (baseEnabled_eq _).trans hbit
    simp [stagePciRd, pciRead_ok _ hd, hv, record, setMchOk, baseOf, zext64, clearMask32]

/-! ### The resolved address (43_mchbar_resolve.md R145; 20_memory.md R77, R78) -/

@[simp] theorem afterPart_cfgraw (i : Instr) (q : Seq) (s : State) : (afterPart i q s).cfgraw = s.cfgraw := by
  cases i <;> rfl

@[simp] theorem afterPart_base (i : Instr) (q : Seq) (s : State) : (afterPart i q s).base = s.base := by
  cases i <;> rfl

@[simp] theorem afterPart_addr (i : Instr) (q : Seq) (s : State) : (afterPart i q s).addr = s.addr := by
  cases i <;> rfl

/-- ENABLED is the parity of the dword. -/
theorem toNat_mod_two_of_enabled {d : Word32} (h : d.getLsbD 0 = true) : d.toNat % 2 = 1 := by
  simpa [BitVec.getLsbD, Nat.testBit_zero] using h

/-- The base address in an enabled dword is the dword less its ENABLED bit. -/
theorem toNat_baseOf_of_enabled {d : Word32} (h : d.getLsbD 0 = true) : (baseOf d).toNat = d.toNat - 1 := by
  have hodd := toNat_mod_two_of_enabled h
  have hshift : baseOf d = zext64 (d >>> 1 <<< 1) :=
    congrArg zext64 (BitVec.shiftLeft_ushiftRight (x := d) (n := 1)).symm
  rw [hshift, zext64, BitVec.toNat_setWidth, BitVec.toNat_shiftLeft, BitVec.toNat_ushiftRight]
  omega

/-- An address from an enabled dword and the default offset does not wrap. -/
theorem toNat_baseOf_add_of_enabled {d : Word32} (h : d.getLsbD 0 = true) :
    (baseOf d + 0x59A0).toNat = d.toNat - 1 + 0x59A0 := by
  have hlt : d.toNat < 2 ^ 32 := d.isLt
  have hwrap : (baseOf d).toNat + 0x59A0 < 2 ^ 64 := by rw [toNat_baseOf_of_enabled h]; omega
  rw [BitVec.toNat_add_of_lt hwrap, toNat_baseOf_of_enabled h]
  rfl

/-- The PCI stage of an enabled dword resolves the address. -/
theorem exec_resolves {i : Instr} {s : State} {any : Word32} (hi : i.hasPciPart) (hq : s.seq = .pciRd)
    (hd : nextDraw s = .ok any) (hbit : s.pci.getLsbD 0 = true) :
    ∃ t, exec i s = .next t ∧ t.cfgraw = s.pci ∧ t.base = baseOf s.pci ∧ t.addr = baseOf s.pci + s.cfg.mmioOffset := by
  obtain ⟨-, -, hresolved⟩ := pciReadStage i s hi hq
  exact ⟨_, hresolved any hd hbit, afterPart_cfgraw .., afterPart_base .., afterPart_addr ..⟩

/-- Settles O18: the dword is odd and below 2^32, so ADDR, the dword less 1 plus 0x59A0, is even and far below 2^64; as
4 divides 0x59A0, bit 1 of the dword stays in place. -/
theorem resolvedAddressIsExact : Obligations.ResolvedAddressIsExact := by
  intro i s any hi hq hoff hd hbit
  obtain ⟨t, hexec, hraw, hbase, haddr⟩ := exec_resolves hi hq hd hbit
  have hlt : s.pci.toNat < 2 ^ 32 := s.pci.isLt
  have hodd := toNat_mod_two_of_enabled hbit
  have hexact : t.addr.toNat = s.pci.toNat - 1 + 0x59A0 := by rw [haddr, hoff, toNat_baseOf_add_of_enabled hbit]
  refine ⟨t, hexec, ?base, hexact, by omega, ?high, ?bit0, ?bit1⟩
  case base => rw [hbase, toNat_baseOf_of_enabled hbit]
  case high =>
    have hwrap : t.addr.toNat + 4 < 2 ^ 64 := by omega
    exact BitVec.toNat_add_of_lt (y := highWordOffset) hwrap
  case bit0 =>
    rw [BitVec.getLsbD, Nat.testBit_eq_decide_div_mod_eq, hexact, decide_eq_false_iff_not]
    omega
  case bit1 =>
    rw [BitVec.getLsbD, BitVec.getLsbD, Nat.testBit_eq_decide_div_mod_eq, Nat.testBit_eq_decide_div_mod_eq, hexact,
      hraw, decide_eq_decide]
    omega

/-! ### MCHRS where the read is answered `ok` (43_mchbar_resolve.md R146) -/

/-- The PCI part where the read returns a dword with ENABLED = 0. -/
theorem pciPart_disabled {s : State} {any : Word32} (hd : nextDraw s = .ok any) (hv : baseEnabled s.pci = false) :
    pciPart s = .ended (raiseBaseDisabled
      { record .pciRd (.pciRead s.cfg.pciBus s.cfg.pciDev s.cfg.pciFn s.cfg.pciOff) (.value32 s.pci) (dropDraw s) with
        cfgraw := s.pci }) := by
  simp [pciPart, pciRead_ok _ hd, hv]

/-- The PCI part where the read returns a dword with ENABLED = 1. -/
theorem pciPart_resolved {s : State} {any : Word32} (hd : nextDraw s = .ok any) (hv : baseEnabled s.pci = true) :
    pciPart s = .goesOn (setMchOk
      { record .pciRd (.pciRead s.cfg.pciBus s.cfg.pciDev s.cfg.pciFn s.cfg.pciOff) (.value32 s.pci) (dropDraw s) with
        cfgraw := s.pci, base := baseOf s.pci, addr := baseOf s.pci + s.cfg.mmioOffset }) := by
  simp [pciPart, pciRead_ok _ hd, hv]

/-- While no command runs, STATUS reads as its stored fields say, whatever else the state holds (10_state.md R22). -/
theorem statusWord_of_idle {s : State} {w : Word32} (st : Status) (hq : s.seq = .idle) (hst : s.status = st)
    (hw : { State.reset with status := st }.statusWord = w) : s.statusWord = w := by
  rw [← hw]
  simp only [State.statusWord, State.busy, hq, hst]
  rfl

/-- How MCHRS completes where ENABLED = 0. -/
def Status.baseDisabled : Status :=
  { Status.clear with done := true, fatal := true, err := .baseDisabled, stage := .pciRd }

/-- How MCHRS completes where ENABLED = 1. -/
def Status.resolved : Status := { Status.clear with done := true, mchOk := true }

/-- Settles O19: `run_of_issue` gives the whole PCI part, which ends by ENABLED. -/
theorem baseResolveChecksTheEnableBit : Obligations.BaseResolveChecksTheEnableBit := by
  intro s w ds hq hturns hprog hdraws
  generalize hs₀ : accept (encode .mchrs) { s with program := [] } = s₀
  have hdraws₀ : s₀.draws = .ok w :: ds := by rw [← hs₀, ← hdraws]; rfl
  have hpci₀ : s₀.pci = s.pci := by rw [← hs₀]; rfl
  have hd : nextDraw s₀ = .ok w := nextDraw_cons hdraws₀
  have ha : Answered 1 s₀ := by simp [Answered, hdraws₀]
  have hrun : Host.Core.run core 2 s = .next (pciPart s₀).finish := by
    subst hs₀
    exact run_of_issue (n := 1) rfl hq hturns hprog (pciPart_runs (m := 0) (.inl rfl) ha)
  refine ⟨_, hrun, ?_⟩
  have hbit : baseEnabled s₀.pci = s.pci.getLsbD 0 := by rw [hpci₀, baseEnabled_eq]
  cases hv : baseEnabled s₀.pci with
  | false =>
    rw [pciPart_disabled hd hv, hpci₀, ← hs₀]
    refine ⟨?_, fun _ => ⟨statusWord_of_idle .baseDisabled rfl ?_ rfl, ?_, ?_⟩, fun h => ?absurd⟩
    case absurd => nomatch hv.symm.trans (hbit.trans h)
    all_goals simp [PartResult.finish, Status.baseDisabled]
  | true =>
    rw [pciPart_resolved hd hv, hpci₀, ← hs₀]
    refine ⟨?_, fun h => ?absurd, fun _ => ⟨statusWord_of_idle .resolved rfl ?_ rfl, ?_, ?_⟩⟩
    case absurd => nomatch hv.symm.trans (hbit.trans h)
    all_goals simp [PartResult.finish, Status.resolved, baseOf, zext64, clearMask32]

end Sys2Proof.Machine
end

section
/-! SUPPORT. The MMIO part: its four stages by the device's answer, the write avoidance of a command that read LOCK set,
and MMIORC at the mirror where every transaction is answered `ok`. -/

namespace Sys2Proof.Machine

/-! ### The read stages (44_mmio_reconcile.md R163 to R168) -/

/-- Settles O21: the two ends of the LOW read. -/
theorem mmioReadLowStage : Obligations.MmioReadLowStage := by
  intro i p s hi hq
  rw [exec_mmioRdLo hi hq]
  refine ⟨fun landed hd => ?err, fun any hd => ?ok⟩
  case err => simp [stageMmioRdLo, memRead_err _ _ hd, record, raiseAccess, raise, complete, afterAccessError]
  case ok => simp [stageMmioRdLo, memRead_ok _ _ hd, memReadValue, record, goto]

theorem anyEnabled_eq (lo hi : Word32) : anyEnabled lo hi = (lo.getLsbD 15 || hi.getLsbD 15) := by
  rw [anyEnabled, mirrorPl1Enabled_eq, mirrorPl2Enabled_eq]

theorem lockedReport_eq (p : Policy) (lo hi : Word32) : lockedReport p lo hi =
    if lo.getLsbD 15 = true ∨ hi.getLsbD 15 = true then .lockedWithLimitsActive
    else if p = .disable then .alreadyReconciled else .lockedCannotMirror := by
  cases p <;> simp [lockedReport, anyEnabled_eq]

/-- `lockedOutcome` as one record: WARN goes with the two warnings (44_mmio_reconcile.md R166 to R168). -/
theorem lockedOutcome_eq (p : Policy) (lo hi : Word32) (s : State) :
    lockedOutcome p lo hi s =
      { s with
        seq := .idle
        status := { s.status with
          done := true, warn := s.status.warn || anyEnabled lo hi || decide (p = .mirror)
          mmioRpt := lockedReport p lo hi } } := by
  obtain ⟨ha, e⟩ | ⟨ha, rfl, e⟩ | ⟨ha, rfl, e⟩ := lockedOutcome_cases p lo hi s <;>
    simp [e, ha, lockedReport, complete, warn, setMmioReport]

/-- The image of the write path, by the policy (44_mmio_reconcile.md R165). -/
theorem writeImage_eq (p : Policy) (m : Word64) : writeImage p m =
    if p = .disable then (0x80000000 : Word32) ++ (0x00000000 : Word32) else (hi32 m ||| 0x80000000) ++ lo32 m := by
  cases p <;> rfl

/-- Settles O22: `err`, and by bit 31 of the word read the reports of a LOCKED mirror or the image to write. -/
theorem mmioReadHighStage : Obligations.MmioReadHighStage := by
  intro i p s hi hq
  rw [exec_mmioRdHi hi hq]
  have haddr : s.highAddr = s.addr + 4 := rfl
  refine ⟨fun landed hd => ?err, fun any w hd hread hbit => ?locked, fun any w hd hread hbit => ?unlocked⟩
  case err => simp [stageMmioRdHi, memRead_err _ _ hd, record, raiseAccess, raise, complete, afterAccessError, haddr]
  case locked =>
    have hw : memReadValue (s.addr + 4) any s = w := hread.symm
    have hv : lockBit w = true := (lockBit_eq w).trans hbit
    rw [stageMmioRdHi, memRead_ok _ _ hd, haddr, hw]
    simp [hv, lockedOutcome_eq, anyEnabled_eq, lockedReport_eq, record, joinWords, Bool.or_assoc]
  case unlocked =>
    have hw : memReadValue (s.addr + 4) any s = w := hread.symm
    have hv : lockBit w = false := (lockBit_eq w).trans hbit
    rw [stageMmioRdHi, memRead_ok _ _ hd, haddr, hw]
    simp [hv, unlockedPrepare, writeImage_eq, record, goto, joinWords]

/-! ### The write stages (44_mmio_reconcile.md R169 to R171) -/

/-- Settles O23: the registers and the transaction after each answer to the LOW write. -/
theorem mmioWriteLowStage : Obligations.MmioWriteLowStage := by
  intro i p s hi hq
  refine ⟨fun landed hd => ⟨_, exec_mmioWrLo_err hi hq hd, ?_, by simp⟩,
    fun any hd => ⟨_, exec_mmioWrLo_ok hi hq hd, ?_, by simp⟩⟩ <;> constructor <;> simp [afterAccessError]

/-- Settles O24: the registers and the transaction after each answer to the HIGH write. -/
theorem mmioWriteHighStage : Obligations.MmioWriteHighStage := by
  intro i p s hi hq
  have haddr : s.highAddr = s.addr + 4 := rfl
  refine ⟨fun landed hd => ⟨_, exec_mmioWrHi_err hi hq hd, ?_, by simp [haddr]⟩,
    fun any hd => ⟨_, exec_mmioWrHi_ok hi hq hd, ?_, by simp [haddr]⟩⟩ <;> constructor <;> simp [afterAccessError]

/-- Settles O28: the window gives the LOW word and an UNLOCKED mirror, which takes the HIGH word; NEWIMG has LOCK set. -/
theorem writtenLockedMeansTheMirrorHoldsTheImage : Obligations.WrittenLockedMeansTheMirrorHoldsTheImage := by
  intro i p s any hinv hwindow hi hq hext haddr hd
  obtain ⟨hunlocked, hlow⟩ := (hwindow hext haddr).2 hq
  have hlock : lockBit (hi32 s.newimg) = true := hinv.lockSet (.inr hq)
  have hwrite : performMemWrite s.highAddr (hi32 s.newimg) (dropDraw s) =
      { dropDraw s with mhi := hi32 s.newimg } := by
    rw [State.highAddr, haddr]
    simpa using performMemWrite_high (hi32 s.newimg) (dropDraw s) ((locked_congr (by simp)).trans hunlocked)
  refine ⟨_, exec_mmioWrHi_ok hi hq hd, rfl, rfl, ?_⟩
  rw [hwrite]
  simp [State.locked, hlow, hlock]

/-! ### Write avoidance (44_mmio_reconcile.md R172) -/

/-- A HIGH read that returned LOCK set (44_mmio_reconcile.md R164). -/
def Txn.ShowsLock (x : Txn) : Prop := ∃ w, x.stage = .mmioRdHi ∧ x.resp = .value32 w ∧ lockBit w = true

theorem sawLock_iff (s : State) : SawLock s ↔ ∃ x ∈ s.trace, x.ShowsLock := Iff.rfl

theorem writeAvoidance_of_noTransactions {s : State} (h : s.trace = []) : WriteAvoidance s := by
  simp [WriteAvoidance, SawLock, h]

theorem WriteAvoidance.of_same {s t : State} (h : SameCommand s t) (hs : WriteAvoidance s) : WriteAvoidance t := by
  rw [h.eq]
  exact hs

/-- What a running command's step adds to its transactions: `x`, at the stage SEQ names, and the command is over where
it shows LOCK set. -/
structure AddsTransaction (s t : State) (x : Txn) : Prop where
  trace : t.trace = s.trace ++ [x]
  stage : x.stage = s.seq
  ends  : x.ShowsLock → t.seq = .idle ∧ x.req.isMemWrite = false

/-- A command's acceptance empties its list of transactions, a stage without an answer keeps it, and every other step
adds one transaction (60_exceptions.md R225). -/
theorem exec_transaction {i : Instr} {s t : State} (h : exec i s = .next t) :
    s.seq = .idle ∧ t.trace = [] ∨ s.seq ≠ .idle ∧ (t.trace = s.trace ∨ ∃ x, AddsTransaction s t x) := by
  cases exec_cases h with
  | codec hq _ _ ht | start hq _ _ ht => exact .inl ⟨hq, ht ▸ rfl⟩
  | waiting hmem _ ht => exact .inr ⟨fun hq => idle_notMem_stagesOf i (hq ▸ hmem), .inl (by simp [ht])⟩
  | readErr _ req hmem _ _ ht =>
    exact .inr ⟨fun hq => idle_notMem_stagesOf i (hq ▸ hmem),
      .inr ⟨⟨s.seq, req, .err⟩, by simp [ht], rfl, by simp [Txn.ShowsLock]⟩⟩
  | foundLocked any p hq _ _ _ ht =>
    obtain ⟨-, -, -, htr, -, hend⟩ := lockedOutcome_effect p s.tlo (memReadValue s.highAddr any s)
      { record .mmioRdHi (.memRead s.highAddr) (.value32 (memReadValue s.highAddr any s)) (dropDraw s) with
          mmioimg := joinWords (memReadValue s.highAddr any s) s.tlo }
    rw [← ht] at htr hend
    exact .inr ⟨by simp [hq], .inr ⟨_, by simpa using htr, hq.symm, fun _ => ⟨hend, rfl⟩⟩⟩
  | foundUnlocked any p hq _ _ hv ht =>
    exact .inr ⟨by simp [hq], .inr ⟨_, by simp [ht, unlockedPrepare]; rfl, hq.symm, by simp [Txn.ShowsLock, hv]⟩⟩
  | msrEnabled _ hq _ _ _ ht | msrToWrite _ hq _ _ _ ht | msrWritten _ hq _ _ ht | msrWriteErr _ hq _ _ ht
  | resolved _ hq _ _ _ ht | disabled _ hq _ _ _ ht | lowRead _ _ hq _ _ ht | lowWritten _ _ hq _ _ ht
  | lowWriteErr _ _ hq _ _ ht | highWritten _ _ hq _ _ ht | highWriteErr _ _ hq _ _ ht =>
    exact .inr ⟨by simp [hq], .inr ⟨_, by simp [ht]; rfl, hq.symm, by simp [Txn.ShowsLock]⟩⟩

/-- An MMIO write is made at a write stage only (20_memory.md R50). -/
theorem stage_of_memWrite {s : State} {base : Word64} {x : Txn} (hx : requestFits s base x)
    (hw : x.req.isMemWrite = true) : x.stage = .mmioWrLo ∨ x.stage = .mmioWrHi := by
  obtain ⟨q, req, resp⟩ := x
  cases req <;> simp [Request.isMemWrite] at hw
  cases q <;> simp [requestFits] at hx ⊢

/-- At the HIGH read a command has made no MMIO write: the write stages come later (10_state.md R36). -/
theorem TraceInv.noWrite_before_highRead {s : State} (hs : TraceInv s) (hq : s.seq = .mmioRdHi) :
    ∀ x ∈ s.trace, x.req.isMemWrite = false := by
  intro x hx
  obtain ⟨base, -, hfit⟩ := hs.requests
  have hearlier := hs.stagesIncrease.earlier (by simp [hq]) hx
  by_contra hw
  have hstage := stage_of_memWrite (hfit x hx) (by simpa using hw)
  rcases hstage with hstage | hstage <;> simp [hstage, hq, Seq.code] at hearlier

/-- A command's acceptance or stage keeps the write avoidance: only the HIGH read can be the one that shows LOCK set. -/
theorem exec_keeps_writeAvoidance {i : Instr} {s t : State} (hs : WriteAvoidance s)
    (hbefore : s.seq = .mmioRdHi → ∀ x ∈ s.trace, x.req.isMemWrite = false) (h : exec i s = .next t) :
    WriteAvoidance t := by
  obtain ⟨-, htr⟩ | ⟨hne, htr⟩ := exec_transaction h
  · exact writeAvoidance_of_noTransactions htr
  have hunseen : ¬ SawLock s := fun hsaw => hne ((not_busy_iff s).mp (hs hsaw).1)
  intro hsaw
  rw [sawLock_iff] at hsaw hunseen
  obtain htr | ⟨x, htr, hstage, hends⟩ := htr
  · exact absurd (htr ▸ hsaw) hunseen
  · rw [htr, exists_mem_concat] at hsaw
    have hlock := hsaw.resolve_left hunseen
    have hq : s.seq = .mmioRdHi := by
      obtain ⟨w, hx, -⟩ := hlock
      exact hstage.symm.trans hx
    obtain ⟨hend, hread⟩ := hends hlock
    refine ⟨(not_busy_iff t).mpr hend, fun y hy => ?_⟩
    obtain hy | rfl : y ∈ s.trace ∨ y = x := by simpa [htr] using hy
    · exact hbefore hq y hy
    · exact hread

/-- Settles O55: every other agent leaves the command's transactions as they were, acceptance and a reset empty them,
and the command's own step is `exec_keeps_writeAvoidance`. -/
theorem stepKeepsWriteAvoidance : Obligations.StepKeepsWriteAvoidance := by
  intro s t _ htrace hs h
  cases step_commandStep h with
  | same h => exact hs.of_same h
  | dropped _ h =>
    have hwovr : WriteAvoidance (setWovr s) := hs
    exact hwovr.of_same h
  | reset h => exact writeAvoidance_of_noTransactions h.trace
  | illegal w _ _ _ h => exact writeAvoidance_of_noTransactions h.trace
  | exec i s₀ h₀ _ _ ht =>
    refine exec_keeps_writeAvoidance (hs.of_same h₀) ?_ ht
    rw [h₀.seq, h₀.trace]
    exact htrace.noWrite_before_highRead

/-! ### MMIORC at the mirror where every transaction is answered `ok` (44_mmio_reconcile.md R177) -/

/-- The state after both reads of the mirror. -/
def afterReads (s : State) : State :=
  { record .mmioRdHi (.memRead s.highAddr) (.value32 s.mhi)
      (dropDraw { record .mmioRdLo (.memRead s.addr) (.value32 s.mlo) (dropDraw s) with tlo := s.mlo }) with
    mmioimg := joinWords s.mhi s.mlo }

@[simp] theorem afterReads_status (s : State) : (afterReads s).status = s.status := by simp [afterReads]
@[simp] theorem afterReads_addr (s : State) : (afterReads s).addr = s.addr := by simp [afterReads]
@[simp] theorem afterReads_cfg (s : State) : (afterReads s).cfg = s.cfg := by simp [afterReads]
@[simp] theorem afterReads_draws (s : State) : (afterReads s).draws = s.draws.tail.tail := by simp [afterReads]
@[simp] theorem afterReads_trace (s : State) : (afterReads s).trace = s.trace ++
    [⟨.mmioRdLo, .memRead s.addr, .value32 s.mlo⟩, ⟨.mmioRdHi, .memRead s.highAddr, .value32 s.mhi⟩] := by
  simp [afterReads]

theorem sameDevices_afterReads (s : State) : SameDevices s (afterReads s) := by constructor <;> simp [afterReads]

section
variable {s : State} {any any' : Word32} {ds : List Config.Draw} (haddr : s.addr = s.cfg.mirrorPa)
  (hdraws : s.draws = .ok any :: .ok any' :: ds)
include haddr hdraws

/-- Both reads at the mirror return its words. -/
theorem mmioPart_reads (p : Policy) : mmioPart p s =
    if s.locked then
      if anyEnabled s.mlo s.mhi then .goesOn (warn .lockedWithLimitsActive (afterReads s))
      else if p = .disable then .goesOn (setMmioReport .alreadyReconciled (afterReads s))
      else .goesOn (warn .lockedCannotMirror (afterReads s))
    else mmioWrites { afterReads s with newimg := writeImage p s.msrimg } := by
  have hhigh := memRead_ok .mmioRdHi s.highAddr (any := any')
    (s := { record .mmioRdLo (.memRead s.addr) (.value32 s.mlo) (dropDraw s) with tlo := s.mlo })
    (nextDraw_cons (ds := ds) (by simp [hdraws]))
  have hlowWord : memReadValue s.addr any s = s.mlo := by simp [memReadValue, haddr]
  have hhighWord : memReadValue s.highAddr any'
      { record .mmioRdLo (.memRead s.addr) (.value32 s.mlo) (dropDraw s) with tlo := s.mlo } = s.mhi := by
    simp [memReadValue, State.mirrorWord, State.highAddr, haddr]
  rw [hhighWord] at hhigh
  rw [mmioPart, memRead_ok _ _ (nextDraw_cons hdraws), hlowWord]
  simp only [hhigh]
  rfl

/-- At a LOCKED mirror the MMIO part makes a report and no write. -/
theorem mmioPart_locked (p : Policy) (hlocked : s.locked = true) :
    ∃ st : Status, st.fatal = s.status.fatal ∧ mmioPart p s = .goesOn { afterReads s with status := st } := by
  rw [mmioPart_reads haddr hdraws, if_pos hlocked]
  split_ifs <;> refine ⟨_, ?_, rfl⟩ <;> simp

/-- At an UNLOCKED mirror the MMIO part goes on to its writes. -/
theorem mmioPart_unlocked (p : Policy) (hunlocked : s.locked = false) :
    mmioPart p s = mmioWrites { afterReads s with newimg := writeImage p s.msrimg } := by
  rw [mmioPart_reads haddr hdraws, hunlocked]
  exact if_neg Bool.false_ne_true

/-- Both words written at an UNLOCKED mirror: it holds NEWIMG. -/
theorem mmioWrites_unlocked (hunlocked : s.locked = false) :
    ∃ t, mmioWrites s = .goesOn t ∧ t.mlo = lo32 s.newimg ∧ t.mhi = hi32 s.newimg ∧
      t.status = { s.status with mmioRpt := .writtenLocked } := by
  have hlow : performMemWrite s.addr (lo32 s.newimg) (dropDraw s) = { dropDraw s with mlo := lo32 s.newimg } := by
    rw [haddr]
    simpa using performMemWrite_low (lo32 s.newimg) (dropDraw s) ((locked_congr (by simp)).trans hunlocked)
  generalize hs₁ : record .mmioWrLo (.memWrite s.addr (lo32 s.newimg)) .ok
    { dropDraw s with mlo := lo32 s.newimg } = s₁
  have hunlocked₁ : (dropDraw s₁).locked = false := (locked_congr (by simp [← hs₁])).trans hunlocked
  have hhigh : performMemWrite s.highAddr (hi32 s.newimg) (dropDraw s₁) =
      { dropDraw s₁ with mhi := hi32 s.newimg } := by
    have hcfg : (dropDraw s₁).cfg = s.cfg := by simp [← hs₁]
    rw [State.highAddr, haddr, ← hcfg]
    exact performMemWrite_high _ _ hunlocked₁
  have hd₁ : nextDraw s₁ = .ok any' := nextDraw_cons (ds := ds) (by simp [← hs₁, hdraws])
  refine ⟨setMmioReport .writtenLocked (record .mmioWrHi (.memWrite s.highAddr (hi32 s.newimg)) .ok
    { dropDraw s₁ with mhi := hi32 s.newimg }), ?_, ?_⟩
  · rw [mmioWrites, memWrite_ok _ _ _ (nextDraw_cons hdraws), hlow, hs₁]
    simp only [memWrite_ok _ _ _ hd₁, hhigh]
  · simp [← hs₁]

end

/-- Settles O27: `run_of_issue` gives the whole MMIO part, whose two reads return the mirror's words; by LOCK it reports
or writes. -/
theorem mmioReconcileOutcomes : Obligations.MmioReconcileOutcomes := by
  intro p s w₁ w₂ w₃ w₄ ds hq hturns hprog hdraws haddr
  generalize hs₀ : accept (encode (.mmiorc p)) { s with program := [] } = s₀
  have hdraws₀ : s₀.draws = .ok w₁ :: .ok w₂ :: .ok w₃ :: .ok w₄ :: ds := by rw [← hs₀, ← hdraws]; rfl
  have haddr₀ : s₀.addr = s₀.cfg.mirrorPa := by rw [← hs₀]; exact haddr
  have ha : Answered 4 s₀ := by simp [Answered, hdraws₀]
  have hrun : Host.Core.run core 5 s = .next (mmioPart p s₀).finish := by
    subst hs₀
    exact run_of_issue (n := 4) rfl hq hturns hprog (mmioPart_runs (m := 0) (.inl rfl) ha)
  have hlocked₀ : s₀.locked = s.locked := by rw [← hs₀]; rfl
  refine ⟨_, hrun, ?_⟩
  cases hl : s.locked with
  | true =>
    obtain ⟨st, hfatal, hpart⟩ := mmioPart_locked haddr₀ hdraws₀ p (hlocked₀.trans hl)
    have hdev := sameDevices_afterReads s₀
    rw [hpart]
    refine ⟨rfl, rfl, ?fatal, fun _ => ⟨?low, ?high, ?reads⟩, (nomatch ·)⟩
    case fatal => exact hfatal.trans (by rw [← hs₀]; rfl)
    case low => exact hdev.mlo.trans (by rw [← hs₀]; rfl)
    case high => exact hdev.mhi.trans (by rw [← hs₀]; rfl)
    case reads =>
      have hnone : s₀.trace = [] := by rw [← hs₀]; rfl
      simp [PartResult.finish, hnone, Request.isMemWrite]
  | false =>
    have hunlocked : (afterReads s₀).locked = false :=
      (locked_congr (sameDevices_afterReads s₀).mhi).trans (hlocked₀.trans hl)
    have hdraws₂ : (afterReads s₀).draws = .ok w₃ :: .ok w₄ :: ds := by simp [hdraws₀]
    have haddr₂ : (afterReads s₀).addr = (afterReads s₀).cfg.mirrorPa := by simpa using haddr₀
    obtain ⟨t, ht, hmlo, hmhi, hst⟩ :=
      mmioWrites_unlocked (s := { afterReads s₀ with newimg := writeImage p s₀.msrimg }) haddr₂ hdraws₂ hunlocked
    have himage : writeImage p s₀.msrimg = writeImage p s.msrimg := by rw [← hs₀]; rfl
    have hclear : s₀.status.fatal = false := by rw [← hs₀]; rfl
    rw [himage] at hmlo hmhi
    rw [mmioPart_unlocked haddr₀ hdraws₀ p (hlocked₀.trans hl), ht]
    refine ⟨rfl, rfl, ?fatal, (nomatch ·), fun _ => ⟨?locked, congrArg Status.mmioRpt hst, ?low, ?high⟩⟩
    case fatal => simp [PartResult.finish, hst, hclear]
    case locked => simp [PartResult.finish, State.locked, hmhi]
    case low => cases p <;> simp [PartResult.finish, hmlo, writeImage]
    case high => cases p <;> simp [PartResult.finish, hmhi, writeImage, setLock]

end Sys2Proof.Machine
end

section
/-! SUPPORT. The transactions of a command: the paths of the table, what a stage's transaction is and how it leaves the
command, and the step. -/

namespace Sys2Proof.Machine

/-! ### The paths, stage by stage -/

/-- Where a command goes from a stage that meets no error, `idle` where it completes (10_state.md R36; 42 R122, R123;
43 R142; 44 R163 to R170; 45 R191, R192). -/
def nextStages : Instr → Seq → List Seq
  | .msrrc, .msrRd => [.msrWr, .idle]
  | .msrrc, .msrWr => [.idle]
  | .mchrs, .pciRd => [.idle]
  | .run _, .msrRd => [.msrWr, .pciRd]
  | .run _, .msrWr => [.pciRd]
  | .run _, .pciRd => [.mmioRdLo]
  | .mmiorc _, .mmioRdLo | .run _, .mmioRdLo => [.mmioRdHi]
  | .mmiorc _, .mmioRdHi | .run _, .mmioRdHi => [.mmioWrLo, .idle]
  | .mmiorc _, .mmioWrLo | .run _, .mmioWrLo => [.mmioWrHi]
  | .mmiorc _, .mmioWrHi | .run _, .mmioWrHi => [.idle]
  | _, _ => []

/-- The stages performed begin one of the command's paths. -/
def OnPath (i : Instr) (l : List Seq) : Prop := ∃ p ∈ fullPaths i, l <+: p

/-- Along a path the next stage is on a path too, and where the command completes the path is whole. -/
theorem fullPaths_nextStages (i : Instr) : ∀ p ∈ fullPaths i, ∀ l ∈ p.inits, ∀ q ∈ l.getLast?, ∀ q' ∈ nextStages i q,
    if q' = .idle then l ∈ fullPaths i else ∃ p' ∈ fullPaths i, l ++ [q'] <+: p' := by
  cases i with
  | testf b => simp [fullPaths]
  | withf b x => simp [fullPaths]
  | msrrc => decide
  | mchrs => decide
  | mmiorc p => cases p <;> decide
  | run p => cases p <;> decide

theorem OnPath.append {i : Instr} {l : List Seq} {q q' : Seq} (h : OnPath i (l ++ [q])) (hn : q' ∈ nextStages i q)
    (hq : q' ≠ .idle) : OnPath i (l ++ [q] ++ [q']) := by
  obtain ⟨p, hp, hl⟩ := h
  simpa [hq, OnPath] using fullPaths_nextStages i p hp _ ((List.mem_inits _ _).mpr hl) q (by simp) q' hn

theorem OnPath.whole {i : Instr} {l : List Seq} {q : Seq} (h : OnPath i (l ++ [q])) (hn : .idle ∈ nextStages i q) :
    l ++ [q] ∈ fullPaths i := by
  obtain ⟨p, hp, hl⟩ := h
  simpa using fullPaths_nextStages i p hp _ ((List.mem_inits _ _).mpr hl) q (by simp) .idle hn

/-- Up to the PCI read a path is one that a disabled base register ends (43_mchbar_resolve.md R142). -/
theorem OnPath.disabled {i : Instr} {l : List Seq} (hi : i.hasPciPart) (h : OnPath i (l ++ [.pciRd])) :
    l ++ [.pciRd] ∈ disabledPaths i := by
  have hpaths : ∀ p ∈ fullPaths i, ∀ l ∈ p.inits, l.getLast? = some .pciRd → l ∈ disabledPaths i := by
    obtain rfl | ⟨p, rfl⟩ := hi
    · decide
    · cases p <;> decide
  obtain ⟨p, hp, hl⟩ := h
  exact hpaths p hp _ ((List.mem_inits _ _).mpr hl) (by simp)

/-! ### A stage's transaction -/

/-- How a transaction leaves its command. -/
inductive TxnOutcome (i : Instr) (s t : State) (resp : Response) : Prop where
  /-- Without an error the command goes on or completes. -/
  | succeeded (hresp : resp ≠ .err) (hnext : t.seq ∈ nextStages i s.seq) (herr : t.status.err = s.status.err)
  /-- An error response is AccessError at the stage (60_exceptions.md R210, R218). -/
  | failed (hresp : resp = .err) (hend : t.seq = .idle) (herr : t.status.err = .access)
      (hstage : t.status.stage = s.seq)
  /-- A disabled base register ends the command (43_mchbar_resolve.md R142). -/
  | disabled (hresp : resp ≠ .err) (hq : s.seq = .pciRd) (hi : i.hasPciPart) (hend : t.seq = .idle)
      (herr : t.status.err = .baseDisabled)

/-- A stage's step makes transaction `x`, at the location the stage reaches, and leaves the command by its outcome, which
`AddsTransaction` does not say. -/
structure Performs (i : Instr) (s t : State) (x : Txn) : Prop where
  trace   : t.trace = s.trace ++ [x]
  stage   : x.stage = s.seq
  fits    : requestFits s s.addr x
  outcome : TxnOutcome i s t x.resp

/-- What a command's step does to its list of transactions. -/
inductive TxnStep (i : Instr) (s t : State) : Prop where
  /-- Acceptance: none made, and the command completes or names its first stage (30_encoding.md R86). -/
  | accepted (hq : s.seq = .idle) (hcmd : t.cmd = encode i) (htr : t.trace = []) (herr : t.status.err = .none)
      (hseq : t.seq = .idle ∧ stagesOf i = [] ∨ (stagesOf i).head? = some t.seq)
  /-- The device has not answered. -/
  | waiting (hne : s.seq ≠ .idle) (ht : t = dropDraw s)
  /-- The stage's one transaction. -/
  | performs (hne : s.seq ≠ .idle) (x : Txn) (hx : Performs i s t x)

/-- From the MSR part a command goes to its write, to the PCI part, or completes (42_msr_reconcile.md R124). -/
theorem mem_nextStages_msrPart {i : Instr} (hi : i.hasMsrPart) :
    .msrWr ∈ nextStages i .msrRd ∧ (∀ u, (afterPart i .pciRd u).seq ∈ nextStages i .msrRd) ∧
      ∀ u, (afterPart i .pciRd u).seq ∈ nextStages i .msrWr := by
  obtain rfl | ⟨p, rfl⟩ := hi <;> simp [nextStages, afterPart]

/-- From the PCI part a command goes to the MMIO part, or completes (43_mchbar_resolve.md R143). -/
theorem mem_nextStages_pciPart {i : Instr} (hi : i.hasPciPart) (u : State) :
    (afterPart i .mmioRdLo u).seq ∈ nextStages i .pciRd := by
  obtain rfl | ⟨p, rfl⟩ := hi <;> simp [nextStages, afterPart]

/-- The MMIO part has one order in MMIORC and RUN (44_mmio_reconcile.md R163 to R171). -/
theorem nextStages_mmioPart {i : Instr} {p : Policy} (hi : i.hasMmioPart p) :
    nextStages i .mmioRdLo = [.mmioRdHi] ∧ nextStages i .mmioRdHi = [.mmioWrLo, .idle] ∧
      nextStages i .mmioWrLo = [.mmioWrHi] ∧ nextStages i .mmioWrHi = [.idle] := by
  obtain rfl | rfl := hi <;> exact ⟨rfl, rfl, rfl, rfl⟩

@[simp] theorem afterPart_err (i : Instr) (q : Seq) (s : State) : (afterPart i q s).status.err = s.status.err := by
  cases i <;> rfl

theorem lockedOutcome_err (p : Policy) (lo hi : Word32) (s : State) :
    (lockedOutcome p lo hi s).status.err = s.status.err := by
  obtain ⟨-, e⟩ | ⟨-, -, e⟩ | ⟨-, -, e⟩ := lockedOutcome_cases p lo hi s <;> rw [e] <;> rfl

theorem highAddr_eq (s : State) : s.highAddr = s.addr + 4 := rfl

theorem exec_txnStep {i : Instr} {s t : State} (h : exec i s = .next t) : TxnStep i s t := by
  cases exec_cases h with
  | codec hq hi _ ht => exact .accepted hq (by simp [ht]) (by simp [ht]) (by simp [ht, Status.clear]) (by simp [ht, hi])
  | start hq _ hfirst ht =>
    exact .accepted hq (by simp [ht]) (by simp [ht]) (by simp [ht, Status.clear]) (by simp [ht, hfirst])
  | waiting hmem _ ht => exact .waiting (fun hq => idle_notMem_stagesOf i (hq ▸ hmem)) ht
  | readErr _ req hmem hreq _ ht =>
    subst ht
    refine .performs (fun hq => idle_notMem_stagesOf i (hq ▸ hmem)) ⟨s.seq, req, .err⟩
      ⟨by simp, rfl, ?_, .failed rfl rfl rfl rfl⟩
    obtain ⟨hq, rfl⟩ | ⟨hq, rfl⟩ | ⟨hq, rfl⟩ | ⟨hq, rfl⟩ := hreq <;> simp [requestFits, hq, highAddr_eq]
  | msrEnabled _ hq hi _ _ ht =>
    obtain ⟨-, hnext, -⟩ := mem_nextStages_msrPart hi
    exact .performs (by simp [hq]) _ ⟨by simp [ht]; rfl, hq.symm, by simp [requestFits],
      .succeeded (by simp) (by rw [ht, hq]; exact hnext _) (by simp [ht])⟩
  | msrToWrite _ hq hi _ _ ht =>
    obtain ⟨hnext, -⟩ := mem_nextStages_msrPart hi
    exact .performs (by simp [hq]) _ ⟨by simp [ht]; rfl, hq.symm, by simp [requestFits],
      .succeeded (by simp) (by rw [ht, hq]; exact hnext) (by simp [ht])⟩
  | msrWritten _ hq hi _ ht =>
    obtain ⟨-, -, hnext⟩ := mem_nextStages_msrPart hi
    exact .performs (by simp [hq]) _ ⟨by simp [ht]; rfl, hq.symm, by simp [requestFits],
      .succeeded (by simp) (by rw [ht, hq]; exact hnext _) (by simp [ht])⟩
  | resolved _ hq hi _ _ ht =>
    exact .performs (by simp [hq]) _ ⟨by simp [ht]; rfl, hq.symm, by simp [requestFits],
      .succeeded (by simp) (by rw [ht, hq]; exact mem_nextStages_pciPart hi _) (by simp [ht])⟩
  | disabled _ hq hi _ _ ht =>
    exact .performs (by simp [hq]) _ ⟨by simp [ht]; rfl, hq.symm, by simp [requestFits],
      .disabled (by simp) hq hi (by simp [ht]) (by simp [ht])⟩
  | lowRead _ p hq hi _ ht =>
    obtain ⟨hnext, -⟩ := nextStages_mmioPart hi
    exact .performs (by simp [hq]) _ ⟨by simp [ht]; rfl, hq.symm, by simp [requestFits],
      .succeeded (by simp) (by simp [ht, hq, hnext]) (by simp [ht])⟩
  | foundLocked any p hq hi _ _ ht =>
    obtain ⟨-, hnext, -⟩ := nextStages_mmioPart hi
    obtain ⟨-, -, -, htr, -, hend⟩ := lockedOutcome_effect p s.tlo (memReadValue s.highAddr any s)
      { record .mmioRdHi (.memRead s.highAddr) (.value32 (memReadValue s.highAddr any s)) (dropDraw s) with
          mmioimg := joinWords (memReadValue s.highAddr any s) s.tlo }
    rw [← ht] at htr hend
    exact .performs (by simp [hq]) _ ⟨by simpa using htr, hq.symm, by simp [requestFits, highAddr_eq],
      .succeeded (by simp) (by simp [hend, hq, hnext]) (by simp [ht, lockedOutcome_err])⟩
  | foundUnlocked _ p hq hi _ _ ht =>
    obtain ⟨-, hnext, -⟩ := nextStages_mmioPart hi
    rw [unlockedPrepare] at ht
    exact .performs (by simp [hq]) _ ⟨by simp [ht]; rfl, hq.symm, by simp [requestFits, highAddr_eq],
      .succeeded (by simp) (by simp [ht, hq, hnext]) (by simp [ht])⟩
  | lowWritten _ p hq hi _ ht =>
    obtain ⟨-, -, hnext, -⟩ := nextStages_mmioPart hi
    exact .performs (by simp [hq]) _ ⟨by simp [ht]; rfl, hq.symm, by simp [requestFits],
      .succeeded (by simp) (by simp [ht, hq, hnext]) (by simp [ht])⟩
  | highWritten _ p hq hi _ ht =>
    obtain ⟨-, -, -, hnext⟩ := nextStages_mmioPart hi
    exact .performs (by simp [hq]) _ ⟨by simp [ht]; rfl, hq.symm, by simp [requestFits, highAddr_eq],
      .succeeded (by simp) (by simp [ht, hq, hnext]) (by simp [ht])⟩
  | msrWriteErr _ hq _ _ ht | lowWriteErr _ _ hq _ _ ht | highWriteErr _ _ hq _ _ ht =>
    exact .performs (by simp [hq]) _ ⟨by simp [ht]; rfl, hq.symm, by simp [requestFits, highAddr_eq],
      .failed (by simp) (by simp [ht]) (by simp [ht]) (by simp [ht, hq])⟩

/-! ### The invariant of the transactions -/

/-- All the command's MMIO transactions are at ADDR and ADDR + 4 (20_memory.md R50). -/
def RequestsAtAddr (t : State) : Prop := ∀ x ∈ t.trace, requestFits t t.addr x

theorem TraceInv.requestsAtAddr {t : State} (ht : TraceInv t) (hb : t.busy = true) : RequestsAtAddr t := by
  obtain ⟨base, hbase, hfit⟩ := ht.requests
  obtain rfl := hbase hb
  exact hfit

/-- A step that leaves SEQ where it was does not end the command. -/
theorem TraceInv.requestsAtAddr_of_seq_eq {s t : State} (ht : TraceInv t) (hq : t.seq = s.seq) (hb : s.busy = true) :
    RequestsAtAddr t :=
  ht.requestsAtAddr ((busy_iff t).mpr (hq ▸ (busy_iff s).mp hb))

/-- Two states at the same point of the same command, with one base for its transactions. -/
structure SameTransactions (s t : State) : Prop where
  command : SameCommand s t
  cfg     : t.cfg = s.cfg
  addr    : s.busy = true → t.addr = s.addr

theorem SameTransactions.trans {s t u : State} (h : SameTransactions s t) (h' : SameTransactions t u) :
    SameTransactions s u where
  command := h.command.trans h'.command
  cfg := h'.cfg.trans h.cfg
  addr := fun hb => (h'.addr ((busy_iff t).mpr (h.command.seq ▸ (busy_iff s).mp hb))).trans (h.addr hb)

theorem SameTransactions.refl (s : State) : SameTransactions s s := ⟨.refl s, rfl, fun _ => rfl⟩

/-- A guarded write keeps what the write keeps. -/
theorem SameTransactions.guarded {s t : State} (mayWrite : Prop) [Decidable mayWrite] (h : SameTransactions s t) :
    SameTransactions s (if mayWrite then t else s) := by
  split_ifs
  · exact h
  · exact .refl s

theorem Surrounded.sameTransactions {s t : State} (h : Surrounded s t) : SameTransactions s t :=
  ⟨h.sameCommand, h.cfg_eq, fun _ => h.sameRegisters.addr⟩

theorem sameTransactions_dropDraw (s : State) : SameTransactions s (dropDraw s) :=
  ⟨sameCommand_dropDraw s, by simp, by simp⟩

theorem sameTransactions_performMsrWrite (v : Word64) (s : State) : SameTransactions s (performMsrWrite v s) :=
  ⟨sameCommand_performMsrWrite v s, rfl, fun _ => rfl⟩

theorem sameTransactions_performMirrorWrite (high : Bool) (w : Word32) (s : State) :
    SameTransactions s (performMirrorWrite high w s) :=
  ⟨sameCommand_performMirrorWrite high w s, by simp [performMirrorWrite], by simp [performMirrorWrite]⟩

theorem sameTransactions_platformPci (d : Word32) (s : State) : SameTransactions s (platformPci d s) := by
  refine ⟨sameCommand_platformPci d s, ?_, ?_⟩ <;> unfold platformPci <;> split_ifs <;> simp

theorem TraceInv.of_same {s t : State} (hs : TraceInv s) (h : SameTransactions s t) : TraceInv t := by
  obtain ⟨base, hbase, hfit⟩ := hs.requests
  have hrequests : ∃ base, (s.busy = true → base = t.addr) ∧ ∀ x ∈ s.trace, requestFits s base x :=
    ⟨base, fun hb => (hbase hb).trans (h.addr hb).symm, hfit⟩
  rw [h.command.eq]
  refine ⟨hs.running, hs.completed, hs.accessError, hs.baseDisabled, hs.illegal, ?_⟩
  simp only [requestFits, h.cfg] at hrequests ⊢
  exact hrequests

theorem TraceInv.setWovr {s : State} (hs : TraceInv s) : TraceInv (setWovr s) :=
  ⟨hs.running, hs.completed, hs.accessError, hs.baseDisabled, hs.illegal, hs.requests⟩

/-- A step of another agent: the invariant, and ADDR where a command runs. -/
theorem TraceInv.keep {s t : State} (hs : TraceInv s) (h : SameTransactions s t) :
    TraceInv t ∧ (s.busy = true → RequestsAtAddr t) :=
  have ht := hs.of_same h
  ⟨ht, ht.requestsAtAddr_of_seq_eq h.command.seq⟩

theorem requestsAtAddr_of_noTransactions {t : State} (h : t.trace = []) : RequestsAtAddr t := by
  simp [RequestsAtAddr, h]

/-- Before a command's first transaction there is only its path to follow. -/
theorem traceInv_of_noTransactions {t : State} (htr : t.trace = [])
    (running : t.busy = true → ∃ i, t.command = some i ∧ OnPath i [t.seq])
    (completed : t.busy = false → t.status.done = true → t.status.err = .none →
      ∃ i, t.command = some i ∧ [] ∈ fullPaths i)
    (noFailure : t.status.err ≠ .access ∧ t.status.err ≠ .baseDisabled)
    (illegal : t.status.err = .illegalCmd → t.command = none) : TraceInv t where
  running := fun hb => by
    obtain ⟨i, hc, hpath⟩ := running hb
    exact ⟨i, hc, by simpa [State.stages, htr, OnPath] using hpath, by simp [htr]⟩
  completed := fun hb hd he => by
    obtain ⟨i, hc, hpath⟩ := completed hb hd he
    exact ⟨i, hc, by simpa [State.stages, htr] using hpath, by simp [htr]⟩
  accessError := fun he => absurd he noFailure.1
  baseDisabled := fun he => absurd he noFailure.2
  illegal := fun he => ⟨illegal he, htr⟩
  requests := ⟨t.addr, fun _ => rfl, by simp [htr]⟩

/-- A command's first stage begins one of its paths, and a command without stages has the empty one. -/
theorem onPath_of_accepted (i : Instr) :
    (stagesOf i = [] → [] ∈ fullPaths i) ∧ ∀ first, (stagesOf i).head? = some first → OnPath i [first] := by
  cases i <;> simp [stagesOf, fullPaths, OnPath]

/-- An accepted command follows its path from the start. -/
theorem traceInv_of_accepted {i : Instr} {t : State} (hd : decode t.cmd = .ok i) (htr : t.trace = [])
    (herr : t.status.err = .none) (hseq : t.seq = .idle ∧ stagesOf i = [] ∨ (stagesOf i).head? = some t.seq) :
    TraceInv t := by
  have hcommand : t.command = some i := by simp [State.command, hd]
  obtain ⟨hnone, hfirst⟩ := onPath_of_accepted i
  refine traceInv_of_noTransactions htr (fun hb => ⟨i, hcommand, ?_⟩) (fun hb _ _ => ⟨i, hcommand, ?_⟩)
    (by simp [herr]) (by simp [herr])
  · exact hfirst _ (hseq.resolve_left fun h => (busy_iff t).mp hb h.1)
  · obtain ⟨-, hi⟩ | hhead := hseq
    · exact hnone hi
    · exact absurd (List.mem_of_head? ((not_busy_iff t).mp hb ▸ hhead)) (idle_notMem_stagesOf i)

theorem traceInv_acceptIllegal {w : Word32} {e : DecodeError} (hd : decode w = .error e) (s : State) :
    TraceInv (acceptIllegal w s) :=
  traceInv_of_noTransactions rfl (by simp [State.busy, acceptIllegal]) (by simp [acceptIllegal])
    (by simp [acceptIllegal]) (by simp [State.command, acceptIllegal, hd])

theorem traceInv_of_reset {t : State} (h : SameCommand State.reset t) : TraceInv t := by
  have herr : t.status.err = .none := by rw [h.status]; rfl
  have hdone : t.status.done = false := by rw [h.status]; rfl
  have hidle : t.busy = false := (not_busy_iff t).mpr h.seq
  exact traceInv_of_noTransactions h.trace (by simp [hidle]) (by simp [hdone]) (by simp [herr]) (by simp [herr])

/-- Whether a transaction fits depends on the base at the MMIO stages, and on NEWIMG at the two write stages. -/
theorem requestFits_congr {s t : State} {base base' : Word64} {x : Txn} (hcfg : t.cfg = s.cfg)
    (hbase : 4 ≤ x.stage.code → base' = base) (hnewimg : 6 ≤ x.stage.code → t.newimg = s.newimg)
    (hx : requestFits s base x) : requestFits t base' x := by
  obtain ⟨q, req, resp⟩ := x
  cases q with
  | idle => exact hx
  | msrRd | msrWr | pciRd =>
    cases req <;> simp only [requestFits, hcfg] at hx ⊢
    exact hx
  | mmioRdLo | mmioRdHi =>
    obtain rfl := hbase (by dsimp only; decide)
    cases req <;> exact hx
  | mmioWrLo | mmioWrHi =>
    obtain rfl := hbase (by dsimp only; decide)
    have hkept := hnewimg (by dsimp only; decide)
    cases req <;> simp only [requestFits, hkept] at hx ⊢
    exact hx

/-- After a stage's transaction all of the command's are at ADDR: the PCI part moves ADDR before the first MMIO
transaction, and NEWIMG is set before the first MMIO write. -/
theorem Performs.requestsAtAddr {i : Instr} {s t : State} {x : Txn} (hs : TraceInv s) (hx : Performs i s t x)
    (hne : s.seq ≠ .idle) (h : exec i s = .next t) : RequestsAtAddr t := by
  have hsfit := hs.requestsAtAddr ((busy_iff s).mpr hne)
  have frame := exec_stageFrame h
  obtain ⟨hcfg, -⟩ := exec_frame h
  intro y hy
  obtain ⟨hyfit, hle⟩ : requestFits s s.addr y ∧ y.stage.code ≤ s.seq.code := by
    obtain hy | rfl : y ∈ s.trace ∨ y = x := by simpa [hx.trace] using hy
    · exact ⟨hsfit y hy, BitVec.le_of_lt (hs.stagesIncrease.earlier hne hy)⟩
    · exact ⟨hx.fits, by rw [hx.stage]; exact BitVec.le_refl _⟩
  refine requestFits_congr hcfg (fun hmmio => ?addr) (fun hwrite => ?newimg) hyfit
  case addr =>
    have hge := BitVec.le_trans hmmio hle
    obtain ⟨-, -, haddr⟩ := frame.pciRegs fun hq => absurd (hq ▸ hge) (by decide)
    exact haddr
  case newimg =>
    have hge := BitVec.le_trans hwrite hle
    obtain ⟨-, -, hnewimg⟩ := frame.mmioRegs (fun hq => absurd (hq ▸ hge) (by decide))
      fun hq => absurd (hq ▸ hge) (by decide)
    exact hnewimg

/-- A stage's transaction keeps the invariant, by how it leaves the command. -/
theorem Performs.traceInv {i : Instr} {s t : State} {x : Txn} (hinv : RegisterInv s) (hs : TraceInv s)
    (hx : Performs i s t x) (hne : s.seq ≠ .idle) (hd : decode s.cmd = .ok i) (h : exec i s = .next t) :
    TraceInv t := by
  have hb := (busy_iff s).mpr hne
  have hstill : s.status.err = .none := (hinv.inProgress_status hb).err
  obtain ⟨j, hj, hpath, hok⟩ := hs.running hb
  obtain rfl : i = j := by simpa [State.command, hd] using hj
  have hcommand : t.command = some i := by
    obtain ⟨-, -, -, -, -, -, hbusy, -⟩ := exec_frame h
    rw [State.command, (hbusy hb).1]
    exact hj
  have hpath : OnPath i (s.stages ++ [s.seq]) := hpath
  have hstages : t.stages = s.stages ++ [s.seq] := by simp [State.stages, hx.trace, hx.stage]
  have noErr : x.resp ≠ .err → ∀ y ∈ t.trace, y.resp ≠ .err := by
    intro hresp y hy
    obtain hy | rfl : y ∈ s.trace ∨ y = x := by simpa [hx.trace] using hy
    · exact hok y hy
    · exact hresp
  have requests := hx.requestsAtAddr hs hne h
  cases hx.outcome with
  | succeeded hresp hnext herr =>
    have herr : t.status.err = .none := herr.trans hstill
    exact {
      running := fun hbt => ⟨i, hcommand, hstages ▸ hpath.append hnext ((busy_iff t).mp hbt), noErr hresp⟩
      completed := fun hbt _ _ =>
        ⟨i, hcommand, hstages ▸ hpath.whole ((not_busy_iff t).mp hbt ▸ hnext), noErr hresp⟩
      accessError := by simp [herr]
      baseDisabled := by simp [herr]
      illegal := by simp [herr]
      requests := ⟨t.addr, fun _ => rfl, requests⟩ }
  | failed hresp hend herr hstage =>
    exact {
      running := by simp [State.busy, hend]
      completed := by simp [herr]
      accessError := fun _ => ⟨i, hcommand, hstages ▸ hpath, by simp [hstages, hstage], by simp [hx.trace, hresp],
        by simpa [hx.trace] using hok⟩
      baseDisabled := by simp [herr]
      illegal := by simp [herr]
      requests := ⟨t.addr, fun _ => rfl, requests⟩ }
  | disabled hresp hq hi hend herr =>
    rw [hq] at hpath hstages
    exact {
      running := by simp [State.busy, hend]
      completed := by simp [herr]
      accessError := by simp [herr]
      baseDisabled := fun _ => ⟨i, hcommand, hstages ▸ hpath.disabled hi, noErr hresp⟩
      illegal := by simp [herr]
      requests := ⟨t.addr, fun _ => rfl, requests⟩ }

/-- A command's acceptance or stage keeps the invariant of the transactions; they are at ADDR also where the stage ends
the command. -/
theorem exec_keeps_traceInv {i : Instr} {s t : State} (hinv : RegisterInv s) (hs : TraceInv s)
    (running : s.busy = true → decode s.cmd = .ok i) (issued : s.busy = false → ∃ w, decode w = .ok i)
    (h : exec i s = .next t) : TraceInv t ∧ (s.busy = true → RequestsAtAddr t) := by
  cases exec_txnStep h with
  | accepted hq hcmd htr herr hseq =>
    have hidle := (not_busy_iff s).mpr hq
    obtain ⟨w, hw⟩ := issued hidle
    exact ⟨traceInv_of_accepted (hcmd ▸ decode_encode_of_decode hw) htr herr hseq, by simp [hidle]⟩
  | waiting _ ht => exact ht ▸ hs.keep (sameTransactions_dropDraw s)
  | performs hne x hx =>
    exact ⟨hx.traceInv hinv hs hne (running ((busy_iff s).mpr hne)) h, fun _ => hx.requestsAtAddr hs hne h⟩

/-- Settles O54: the other agents reach neither the transactions nor, while a command runs, ADDR; acceptance and a reset
empty the list, and the command's own step is `exec_keeps_traceInv`. -/
theorem stepKeepsTraceInv : Obligations.StepKeepsTraceInv := by
  intro s t hinv hs h
  have hdrop := (surrounded_dropTurn s).sameTransactions
  cases step_cases h with
  | quiet h₀ => exact hs.keep h₀.sameTransactions
  | stage i s₀ h₀ _ hb hd ht =>
    have hd₀ : decode s₀.cmd = .ok i := h₀.sameCommand.cmd ▸ hd
    rw [← h₀.busy_eq] at hb ⊢
    exact exec_keeps_traceInv (hinv.of_same h₀.sameCommand) (hs.of_same h₀.sameTransactions) (fun _ => hd₀)
      (by simp [hb]) ht
  | issue i w s₀ h₀ hb hd ht =>
    rw [← h₀.busy_eq] at hb ⊢
    exact exec_keeps_traceInv (hinv.of_same h₀.sameCommand) (hs.of_same h₀.sameTransactions) (by simp [hb])
      (fun _ => ⟨w, hd⟩) ht
  | illegal _ _ s₀ _ hb hd ht => exact ⟨ht ▸ traceInv_acceptIllegal hd s₀, by simp [hb]⟩
  | dropped s₀ h₀ _ ht =>
    have hwovr := (hs.of_same h₀.sameTransactions).setWovr
    exact ht ▸ ⟨hwovr, hwovr.requestsAtAddr_of_seq_eq h₀.seq_eq⟩
  | hostData s₀ h₀ hb a m d ht =>
    have hdata : SameCommand s₀ { s₀ with a := a, msrimg := m, addr := d } := by constructor <;> rfl
    exact ht ▸ hs.keep ⟨h₀.sameCommand.trans hdata, h₀.cfg_eq, by simp [hb]⟩
  | reset landed _ ht =>
    have hreset := sameCommand_blockReset landed (dropTurn s)
    exact ht ▸ ⟨traceInv_of_reset hreset, fun _ => requestsAtAddr_of_noTransactions hreset.trace⟩
  | power landed msr mlo mhi pci _ ht =>
    have hpower : SameCommand State.reset (powerOn landed msr mlo mhi pci (dropTurn s)) := by constructor <;> rfl
    exact ht ▸ ⟨traceInv_of_reset hpower, fun _ => requestsAtAddr_of_noTransactions hpower.trace⟩
  | extMsr v _ ht => exact ht ▸ hs.keep (hdrop.trans (.guarded _ (sameTransactions_performMsrWrite v _)))
  | extMirror high w _ ht =>
    exact ht ▸ hs.keep (hdrop.trans (.guarded _ (sameTransactions_performMirrorWrite high w _)))
  | firmwareMsr v _ ht => exact ht ▸ hs.keep (hdrop.trans (.guarded _ (sameTransactions_performMsrWrite v _)))
  | firmwareMirror high w _ ht =>
    exact ht ▸ hs.keep (hdrop.trans (.guarded _ (sameTransactions_performMirrorWrite high w _)))
  | platform d _ ht => exact ht ▸ hs.keep (hdrop.trans (sameTransactions_platformPci d _))

end Sys2Proof.Machine
end

section
/-! SUPPORT. RUN against its pseudocode: the parts run one after another, each answered. -/

namespace Sys2Proof.Machine

/-! ### A part after another -/

theorem Answered.of_succ {n : Nat} {s : State} (h : Answered (n + 1) s) : Answered n s := by
  obtain ⟨hlen, hds⟩ := h
  exact ⟨Nat.le_of_succ_le hlen, fun d hd => hds d (List.take_subset_take_left _ (Nat.le_succ n) hd)⟩

theorem PartResult.andThen_goesOn {p : PartResult} {f : State → PartResult} {u : State}
    (h : p.andThen f = .goesOn u) : ∃ v, p = .goesOn v ∧ f v = .goesOn u := by
  cases p with
  | ended s => cases h
  | goesOn v => exact ⟨v, rfl, h⟩

/-- The MSR part takes at most two of the answers (42_msr_reconcile.md R121). -/
theorem msrPart_answered {n : Nat} {s u : State} (ha : Answered (n + 2) s) (h : msrPart s = .goesOn u) :
    Answered n u := by
  rw [msrPart] at h
  obtain ⟨t, hr⟩ | ⟨v, t, hr, ha, -⟩ := msrRead_settled .msrRd ha
  · rw [hr] at h
    cases h
  · simp only [hr] at h
    split_ifs at h
    · cases h
      exact ha.of_succ.congr rfl
    · obtain ⟨w, hw⟩ | ⟨_, w, hw, ha, -⟩ :=
          msrWrite_settled .msrWr (orMask v reqMask) (s := { t with msrin := v }) ha <;> rw [hw] at h <;> cases h
      exact ha.congr rfl

/-- The PCI part takes one of the answers (43_mchbar_resolve.md R142). -/
theorem pciPart_answered {n : Nat} {s u : State} (ha : Answered (n + 1) s) (h : pciPart s = .goesOn u) :
    Answered n u := by
  rw [pciPart] at h
  obtain ⟨t, hr⟩ | ⟨d, t, hr, ha, -⟩ := pciRead_settled .pciRd ha
  · rw [hr] at h
    cases h
  · simp only [hr] at h
    split_ifs at h
    cases h
    exact ha.congr rfl

/-- Two parts in a row: the second runs only where the first goes on (45_sequence.md R191, R192, R194). -/
theorem PartRuns.andThen {i : Instr} {done : State → State} {next q : Seq} {f : State → PartResult} {m n : Nat}
    {s : State} {p : PartResult} (h : PartRuns i (goto next) n q s p)
    (rest : ∀ u, p = .goesOn u → ∀ k, PartRuns i done (k + m) next u (f u)) :
    PartRuns i done (n + m) q s (p.andThen f) := by
  induction h with
  | ended hq h hend =>
    rw [Nat.add_right_comm]
    exact .ended hq h hend
  | @goesOn n q s t hq h =>
    rw [Nat.add_right_comm]
    exact .stage (u := t) hq h (rest t rfl n)
  | stage hq h _ ih =>
    rw [Nat.add_right_comm]
    exact .stage hq h (ih rest)

/-- RUN's three parts in a row (45_sequence.md R190). -/
theorem run_runs {p : Policy} {s : State} (ha : Answered 7 s) :
    PartRuns (.run p) complete 7 .msrRd s (((msrPart s).andThen pciPart).andThen (mmioPart p)) := by
  have hmsr : PartRuns (.run p) (goto .pciRd) 2 .msrRd s (msrPart s) := msrPart_runs (n := 0) (.inr ⟨p, rfl⟩) ha
  have hpci : PartRuns (.run p) (goto .mmioRdLo) 3 .msrRd s ((msrPart s).andThen pciPart) :=
    hmsr.andThen fun _ hu _ => pciPart_runs (.inr ⟨p, rfl⟩) (msrPart_answered ha hu)
  refine hpci.andThen (m := 4) fun u hu _ => ?_
  obtain ⟨v, hv, hu⟩ := PartResult.andThen_goesOn hu
  exact mmioPart_runs (m := 0) (.inr rfl) (pciPart_answered (msrPart_answered ha hv) hu)

/-- Settles O60: RUN's three parts, run stage by stage, each only where the one before it goes on. -/
theorem runRefinesItsPseudocode : Obligations.RunRefinesItsPseudocode := by
  intro p s hq hturns hprog ha
  exact run_of_issue (n := 7) rfl hq hturns hprog (run_runs ha)

end Sys2Proof.Machine
end

section
/-! SUPPORT. The host port, index by index: reads, writes while RRC is idle and while it is busy, and that no turn stops
the machine. -/

namespace Sys2Proof.Machine

/-! ### The host port (60_exceptions.md R221 to R227) -/

theorem hostRegAt_of_reserved : ∀ {idx : BitVec 4}, 11 ≤ idx.toNat → hostRegAt idx = none := by decide

/-- Settles O38: each index reads its register, and only what the host has received changes. -/
theorem hostReadReturnsTheRegister : Obligations.HostReadReturnsTheRegister := by
  intro idx s
  refine ⟨rfl, rfl, rfl, rfl, rfl, rfl, rfl, rfl, rfl, rfl, rfl, rfl, fun hidx => ?reserved⟩
  case reserved => simp [hostReadValue, hostRegAt_of_reserved hidx]

/-- Settles O35: at each of the four indices the write is guarded by BUSY. -/
theorem hostWriteWhileBusyIsDropped : Obligations.HostWriteWhileBusyIsDropped := by
  intro idx v s hb hidx
  obtain rfl | rfl | rfl | rfl := hidx <;> exact if_pos hb

/-- The registers RRC alone writes, and the reserved indices (60_exceptions.md R226). -/
theorem hostRegAt_of_readOnly : ∀ {idx : BitVec 4}, ¬ (idx = 0 ∨ idx = 2 ∨ idx = 5 ∨ idx = 8) →
    hostRegAt idx ∈ [none, some .status, some .r, some .msrin, some .cfgraw, some .base, some .mmioimg,
      some .newimg] := by decide

theorem hostWrite_of_readOnly {idx : BitVec 4} (v : Word64) (s : State)
    (hidx : ¬ (idx = 0 ∨ idx = 2 ∨ idx = 5 ∨ idx = 8)) : hostWrite idx v s = .next s := by
  have hreg := hostRegAt_of_readOnly hidx
  simp only [List.mem_cons, List.not_mem_nil, or_false] at hreg
  obtain h | h | h | h | h | h | h | h := hreg <;> simp only [hostWrite, h]

/-- Settles O37: the indices named are those of no writable register. -/
theorem hostWriteToReadOnlyHasNoEffect : Obligations.HostWriteToReadOnlyHasNoEffect := by
  intro idx v s hidx
  have readOnly : ∀ idx : BitVec 4, (idx = 1 ∨ idx = 3 ∨ idx = 4 ∨ idx = 6 ∨ idx = 7 ∨ idx = 9 ∨ idx = 10 ∨
      11 ≤ idx.toNat) → ¬ (idx = 0 ∨ idx = 2 ∨ idx = 5 ∨ idx = 8) := by decide
  exact hostWrite_of_readOnly v s (readOnly idx hidx)

/-- Settles O36: the three data registers by their guard, CMD by acceptance (O7's lemmas), the rest by R226. -/
theorem hostWriteWhileIdle : Obligations.HostWriteWhileIdle := by
  intro v s hb
  have hq : s.seq = .idle := (not_busy_iff s).mp hb
  have hguard : ¬ s.busy = true := by simp [hb]
  refine ⟨if_neg hguard, if_neg hguard, if_neg hguard, fun i h => hostWrite_cmd_of_decode_ok hq h,
    fun e h => hostWrite_cmd_of_decode_error hq h, fun idx hcmd ha hmsrimg haddr => ?readOnly⟩
  case readOnly => exact hostWrite_of_readOnly v s fun h => h.elim hcmd (·.elim ha (·.elim hmsrimg haddr))

/-! ### Every turn answers a next state (60_exceptions.md R217, R220) -/

theorem exec_next_of_stage {i : Instr} {s : State} (h : s.seq = .idle ∨ s.seq ∈ stagesOf i) :
    ∃ t, exec i s = .next t := by
  obtain ⟨-, ht⟩ | ⟨hn, -⟩ := exec_answers i s
  · exact ht
  · exact absurd h hn

/-- Every host write answers, a write of any word to CMD too: a word is a command, which starts, or an illegal word. -/
theorem hostWrite_answers (idx : BitVec 4) (v : Word64) (s : State) : ∃ t, hostWrite idx v s = .next t := by
  by_cases hidx : idx = 0 ∨ idx = 2 ∨ idx = 5 ∨ idx = 8
  · cases hb : s.busy with
    | true => exact ⟨_, hostWriteWhileBusyIsDropped idx v s hb hidx⟩
    | false =>
      obtain ⟨ha, hmsrimg, haddr, hcommand, hillegal, -⟩ := hostWriteWhileIdle v s hb
      obtain rfl | rfl | rfl | rfl := hidx
      · cases hd : decode (v.extractLsb' 0 32) with
        | ok i => exact hcommand i hd ▸ exec_next_of_stage (.inl ((not_busy_iff s).mp hb))
        | error e => exact ⟨_, hillegal e hd⟩
      · exact ⟨_, ha⟩
      · exact ⟨_, hmsrimg⟩
      · exact ⟨_, haddr⟩
  · exact ⟨s, hostWrite_of_readOnly v s hidx⟩

theorem hostOperation_answers (op : HostOp) (s : State) : ∃ t, hostOperation op s = .next t := by
  cases op with
  | wr idx v => exact hostWrite_answers idx v s
  | rd _ | wait => exact ⟨_, rfl⟩
  | issue i => exact hostWrite_answers HostReg.cmd.index (zext64 (encode i)) s
  | doCmd i => exact hostWrite_answers HostReg.cmd.index (zext64 (encode i)) { s with program := .wait :: s.program }

theorem hostTurn_answers (s : State) : ∃ t, hostTurn s = .next t := by
  cases hp : s.program with
  | nil => exact ⟨s, by rw [hostTurn, hp]⟩
  | cons op ops =>
    rw [hostTurn_of_cons hp]
    exact hostOperation_answers op _

/-- The controller's turn answers: a running command is at one of its stages. -/
theorem controllerTurn_answers {s : State} (hs : RegisterInv s) : ∃ t, controllerTurn s = .next t := by
  cases hb : s.busy with
  | true =>
    obtain ⟨i, hc, hmem, -⟩ := hs.running hb
    rw [controllerTurn_of_running (decode_of_command hc) ((busy_iff s).mp hb)]
    exact exec_next_of_stage (.inr hmem)
  | false => exact ⟨s, by simp [controllerTurn, hb]⟩

theorem takeTurn_answers (turn : Turn) {s : State} (hs : RegisterInv s) : ∃ t, takeTurn turn s = .next t := by
  cases turn with
  | controller => exact controllerTurn_answers hs
  | host => exact hostTurn_answers s
  | blockReset _ | powerOn _ _ _ _ _ | extMsrWrite _ | extMirrorWrite _ _ | firmwareMsrWrite _
  | firmwareMirrorWrite _ _ | platformPci _ => exact ⟨_, rfl⟩

/-- Settles O52: the turn answers, and O51 keeps the invariant. -/
theorem everyStepAnswersANextState : Obligations.EveryStepAnswersANextState := by
  intro s hs
  obtain ⟨t, ht⟩ := takeTurn_answers (nextTurn s) (hs.of_same (sameCommand_dropTurn s))
  exact ⟨t, ht, stepKeepsRegisterInv s t hs ht⟩

end Sys2Proof.Machine
end

section
/-! SUPPORT. The controller as a function of what it sees: what a stage leaves in RRC's registers, from those registers
and the response to the stage's request, so that equal responses leave equal registers. -/

namespace Sys2Proof.Machine

/-! ### What the controller sees (60_exceptions.md R225) -/

/-- RRC's registers, its configuration and its transactions; every other field at a fixed value. -/
def State.controllerView (s : State) : State :=
  { s with
    msr := 0, mlo := 0, mhi := 0, pci := 0, stray := [], commanded := false, program := [], rdData := 0, turns := []
    draws := [], drawCtr := 0 }

theorem controllerView_eq_iff (s t : State) :
    s.controllerView = t.controllerView ↔ SameRegisters s t ∧ s.cfg = t.cfg ∧ s.trace = t.trace := by
  constructor
  · intro h
    simp only [State.controllerView, State.mk.injEq] at h
    exact ⟨by constructor <;> simp only [h], by simp only [h], by simp only [h]⟩
  · rintro ⟨h, hcfg, htr⟩
    simp only [State.controllerView, h.cmd, h.status, h.a, h.r, h.msrin, h.msrimg, h.cfgraw, h.base, h.addr, h.mmioimg,
      h.newimg, h.seq, h.tlo, hcfg, htr]

@[simp] theorem controllerView_seq (s : State) : s.controllerView.seq = s.seq := rfl
@[simp] theorem controllerView_trace (s : State) : s.controllerView.trace = s.trace := rfl

@[simp] theorem controllerView_record (q : Seq) (req : Request) (resp : Response) (s : State) :
    (record q req resp s).controllerView = record q req resp s.controllerView := rfl

@[simp] theorem controllerView_dropDraw (s : State) : (dropDraw s).controllerView = s.controllerView := by
  simp [State.controllerView]

@[simp] theorem controllerView_performMsrWrite (v : Word64) (s : State) :
    (performMsrWrite v s).controllerView = s.controllerView := rfl

@[simp] theorem controllerView_landMsrWrite (landed : Bool) (v : Word64) (s : State) :
    (landMsrWrite landed v s).controllerView = s.controllerView := by
  cases landed <;> rfl

@[simp] theorem controllerView_performMemWrite (addr : Word64) (w : Word32) (s : State) :
    (performMemWrite addr w s).controllerView = s.controllerView := by
  obtain ⟨-, -, e⟩ | ⟨-, -, e⟩ | ⟨-, -, e⟩ | ⟨-, e⟩ := performMemWrite_cases addr w s <;> rw [e] <;> rfl

@[simp] theorem controllerView_landMemWrite (landed : Bool) (addr : Word64) (w : Word32) (s : State) :
    (landMemWrite landed addr w s).controllerView = s.controllerView := by
  obtain ⟨-, e⟩ | ⟨-, -, e⟩ := landMemWrite_cases landed addr w s <;> simp [e]

theorem controllerView_afterPart (i : Instr) (q : Seq) (s : State) :
    (afterPart i q s).controllerView = afterPart i q s.controllerView := by
  cases i <;> rfl

theorem controllerView_lockedOutcome (p : Policy) (lo hi : Word32) (s : State) :
    (lockedOutcome p lo hi s).controllerView = lockedOutcome p lo hi s.controllerView := by
  unfold lockedOutcome
  cases anyEnabled lo hi <;> cases p <;> rfl

/-! ### A stage, by its response -/

/-- The request of the stage SEQ names (00_scope.md R11, 10_state.md R25); IDLE, which makes none, shares a row. -/
def State.request (s : State) : Request :=
  match s.seq with
  | .idle | .msrRd => .msrRead s.cfg.msrIndex
  | .msrWr         => .msrWrite s.cfg.msrIndex (orMask s.msrin reqMask)
  | .pciRd         => .pciRead s.cfg.pciBus s.cfg.pciDev s.cfg.pciFn s.cfg.pciOff
  | .mmioRdLo      => .memRead s.addr
  | .mmioRdHi      => .memRead s.highAddr
  | .mmioWrLo      => .memWrite s.addr (lo32 s.newimg)
  | .mmioWrHi      => .memWrite s.highAddr (hi32 s.newimg)

@[simp] theorem controllerView_request (s : State) : s.controllerView.request = s.request := rfl

/-- The policy of a command with the MMIO part; the other commands never use theirs. -/
def policyOf : Instr → Policy
  | .mmiorc p | .run p => p
  | .testf _ | .withf _ _ | .msrrc | .mchrs => .disable

theorem policyOf_of_hasMmioPart {i : Instr} {p : Policy} (hi : i.hasMmioPart p) : policyOf i = p := by
  obtain rfl | rfl := hi <;> rfl

/-- What a stage does with the response to its request (42_msr_reconcile.md R122, R123; 43 R142; 44 R163 to R170). Only
MSR_RD gets a 64-bit value; among the stages that get a 32-bit value or a plain `ok`, SEQ tells, its last row being the
HIGH word's read or write. -/
def afterResponse (i : Instr) (resp : Response) (s : State) : State :=
  match resp with
  | .err => raiseAccess s.seq s
  | .value64 v =>
    if allSet v reqMask then afterPart i .pciRd (setMsrReport .alreadyEnabled { s with msrin := v, msrimg := v })
    else goto .msrWr { s with msrin := v }
  | .value32 w =>
    match s.seq with
    | .pciRd =>
      if baseEnabled w then
        afterPart i .mmioRdLo (setMchOk { s with cfgraw := w, base := baseOf w, addr := baseOf w + s.cfg.mmioOffset })
      else raiseBaseDisabled { s with cfgraw := w }
    | .mmioRdLo => goto .mmioRdHi { s with tlo := w }
    | _ =>
      if lockBit w then lockedOutcome (policyOf i) s.tlo w { s with mmioimg := joinWords w s.tlo }
      else unlockedPrepare (policyOf i) { s with mmioimg := joinWords w s.tlo }
  | .ok =>
    match s.seq with
    | .msrWr    => afterPart i .pciRd (setMsrReport .written { s with msrimg := orMask s.msrin reqMask })
    | .mmioWrLo => goto .mmioWrHi s
    | _         => complete (setMmioReport .writtenLocked s)

/-- No field of a device or of the host takes part in what follows a response. -/
theorem controllerView_afterResponse (i : Instr) (resp : Response) (s : State) :
    (afterResponse i resp s).controllerView = afterResponse i resp s.controllerView := by
  cases resp with
  | err => rfl
  | value64 v =>
    simp only [afterResponse]
    split
    · exact controllerView_afterPart i _ _
    · rfl
  | value32 w =>
    simp only [afterResponse, controllerView_seq]
    split
    · split
      · exact controllerView_afterPart i _ _
      · rfl
    · rfl
    · split
      · exact controllerView_lockedOutcome _ _ _ _
      · rfl
  | ok =>
    simp only [afterResponse, controllerView_seq]
    split
    · exact controllerView_afterPart i _ _
    · rfl
    · rfl

/-- A response is recorded before the stage goes on, which records nothing itself. -/
theorem afterResponse_trace (i : Instr) (resp : Response) (s : State) : (afterResponse i resp s).trace = s.trace := by
  cases resp with
  | err => rfl
  | value64 v =>
    simp only [afterResponse]
    split <;> simp
  | value32 w =>
    simp only [afterResponse]
    split
    · split <;> simp
    · rfl
    · split
      · obtain ⟨-, -, -, htrace, -, -⟩ := lockedOutcome_effect (policyOf i) s.tlo w
          { s with mmioimg := joinWords w s.tlo }
        exact htrace
      · rfl
  | ok =>
    simp only [afterResponse]
    split <;> simp

/-- What one step of a stage does: nothing the controller sees, while there is no response (20_memory.md R65), or the
transaction with its response, and what follows it. The device's side of the transaction is in `u`. -/
inductive Responded (i : Instr) (s t : State) : Option Response → Prop where
  | waiting (ht : t.controllerView = s.controllerView) : Responded i s t none
  | answered (resp : Response) (u : State) (hu : u.controllerView = s.controllerView)
      (ht : t = afterResponse i resp (record s.seq s.request resp u)) : Responded i s t (some resp)

/-- Every stage of the model is a transaction followed by `afterResponse`. -/
theorem exec_responded {i : Instr} {s t : State} (h : exec i s = .next t) (hq : s.seq ≠ .idle) :
    ∃ resp, Responded i s t resp := by
  cases exec_cases h with
  | codec hidle _ _ _ | start hidle _ _ _ => exact absurd hidle hq
  | waiting _ _ ht => exact ⟨_, .waiting (by simp [ht])⟩
  | readErr _ req _ hreq _ ht =>
    have hrequest : req = s.request := by
      obtain ⟨hq, rfl⟩ | ⟨hq, rfl⟩ | ⟨hq, rfl⟩ | ⟨hq, rfl⟩ := hreq <;> simp [State.request, hq]
    exact ⟨_, .answered .err (dropDraw s) (by simp) (by simp [afterResponse, ht, hrequest])⟩
  | msrEnabled _ hq _ _ hv ht | msrToWrite _ hq _ _ hv ht =>
    exact ⟨_, .answered (.value64 s.msr) (dropDraw s) (by simp) (by simp [afterResponse, State.request, ht, hq, hv])⟩
  | msrWritten _ hq _ _ ht =>
    exact ⟨_, .answered .ok (performMsrWrite (orMask s.msrin reqMask) (dropDraw s)) (by simp)
      (by simp [afterResponse, State.request, ht, hq])⟩
  | msrWriteErr landed hq _ _ ht =>
    exact ⟨_, .answered .err (landMsrWrite landed (orMask s.msrin reqMask) (dropDraw s)) (by simp)
      (by simp [afterResponse, State.request, ht, hq])⟩
  | resolved _ hq _ _ hv ht | disabled _ hq _ _ hv ht =>
    exact ⟨_, .answered (.value32 s.pci) (dropDraw s) (by simp) (by simp [afterResponse, State.request, ht, hq, hv])⟩
  | lowRead any _ hq _ _ ht =>
    exact ⟨_, .answered (.value32 (memReadValue s.addr any s)) (dropDraw s) (by simp)
      (by simp [afterResponse, State.request, ht, hq])⟩
  | foundLocked any p hq hi _ hv ht | foundUnlocked any p hq hi _ hv ht =>
    exact ⟨_, .answered (.value32 (memReadValue s.highAddr any s)) (dropDraw s) (by simp)
      (by simp [afterResponse, State.request, ht, hq, hv, policyOf_of_hasMmioPart hi])⟩
  | lowWritten _ _ hq _ _ ht =>
    exact ⟨_, .answered .ok (performMemWrite s.addr (lo32 s.newimg) (dropDraw s)) (by simp)
      (by simp [afterResponse, State.request, ht, hq])⟩
  | lowWriteErr landed _ hq _ _ ht =>
    exact ⟨_, .answered .err (landMemWrite landed s.addr (lo32 s.newimg) (dropDraw s)) (by simp)
      (by simp [afterResponse, State.request, ht, hq])⟩
  | highWritten _ _ hq _ _ ht =>
    exact ⟨_, .answered .ok (performMemWrite s.highAddr (hi32 s.newimg) (dropDraw s)) (by simp)
      (by simp [afterResponse, State.request, ht, hq])⟩
  | highWriteErr landed _ hq _ _ ht =>
    exact ⟨_, .answered .err (landMemWrite landed s.highAddr (hi32 s.newimg) (dropDraw s)) (by simp)
      (by simp [afterResponse, State.request, ht, hq])⟩

theorem Responded.responses {i : Instr} {s t : State} {resp : Option Response} (h : Responded i s t resp) :
    t.trace.map (·.resp) = s.trace.map (·.resp) ++ resp.toList := by
  cases h with
  | waiting ht =>
    have htrace : t.trace = s.trace := by simpa using congrArg State.trace ht
    simp [htrace]
  | answered resp u hu ht =>
    have htrace : u.trace = s.trace := by simpa using congrArg State.trace hu
    simp [ht, afterResponse_trace, htrace]

/-- The same response to the same request in the same registers. -/
theorem Responded.controllerView_eq {i : Instr} {s₁ s₂ t₁ t₂ : State} {resp : Option Response}
    (hs : s₁.controllerView = s₂.controllerView) (h₁ : Responded i s₁ t₁ resp) (h₂ : Responded i s₂ t₂ resp) :
    t₁.controllerView = t₂.controllerView := by
  cases h₁ with
  | waiting ht₁ =>
    cases h₂ with
    | waiting ht₂ => rw [ht₁, ht₂, hs]
  | answered resp u₁ hu₁ ht₁ =>
    cases h₂ with
    | answered _ u₂ hu₂ ht₂ =>
      have hseq : s₁.seq = s₂.seq := by simpa using congrArg State.seq hs
      have hrequest : s₁.request = s₂.request := by simpa using congrArg State.request hs
      simp only [ht₁, ht₂, controllerView_afterResponse, controllerView_record, hu₁, hu₂, hs, hseq, hrequest]

/-! ### Acceptance -/

/-- An acceptance is one function of the state, and reads of it what the controller sees (30_encoding.md R86). -/
theorem exec_of_idle_eq (i : Instr) : ∃ acceptance : State → State,
    (∀ s, s.seq = .idle → exec i s = .next (acceptance s)) ∧
      ∀ s, (acceptance s).controllerView = (acceptance s.controllerView).controllerView := by
  cases i with
  | testf b => exact ⟨_, fun _ hq => exec_testf_of_idle b hq, fun _ => rfl⟩
  | withf b x => exact ⟨_, fun _ hq => exec_withf_of_idle b x hq, fun _ => rfl⟩
  | msrrc | mchrs | mmiorc p | run p => exact ⟨_, fun _ hq => exec_start_of_idle hq rfl, fun _ => rfl⟩

theorem exec_controllerView_of_idle {i : Instr} {s₁ s₂ t₁ t₂ : State} (hq : s₁.seq = .idle)
    (hs : s₁.controllerView = s₂.controllerView) (h₁ : exec i s₁ = .next t₁) (h₂ : exec i s₂ = .next t₂) :
    t₁.controllerView = t₂.controllerView := by
  have hq₂ : s₂.seq = .idle := by simpa [hq] using (congrArg State.seq hs).symm
  obtain ⟨acceptance, hexec, hview⟩ := exec_of_idle_eq i
  obtain rfl : acceptance s₁ = t₁ := by simpa [hexec s₁ hq] using h₁
  obtain rfl : acceptance s₂ = t₂ := by simpa [hexec s₂ hq₂] using h₂
  rw [hview, hs, ← hview]

/-- Settles O49: an acceptance reads no response, and at a stage equal lists of responses end in equal responses, which
leave equal registers. -/
theorem sameResponsesSameResults : Obligations.SameResponsesSameResults := by
  intro i s₁ s₂ t₁ t₂ hregs hcfg htrace h₁ h₂ hresponses
  have hs : s₁.controllerView = s₂.controllerView := (controllerView_eq_iff s₁ s₂).mpr ⟨hregs, hcfg, htrace⟩
  suffices ht : t₁.controllerView = t₂.controllerView by
    obtain ⟨hregs, -, htrace⟩ := (controllerView_eq_iff t₁ t₂).mp ht
    exact ⟨hregs, htrace⟩
  by_cases hq : s₁.seq = .idle
  · exact exec_controllerView_of_idle hq hs h₁ h₂
  · obtain ⟨resp₁, hr₁⟩ := exec_responded h₁ hq
    obtain ⟨resp₂, hr₂⟩ := exec_responded h₂ (hregs.seq ▸ hq)
    have hlast : resp₁.toList = resp₂.toList := by
      rwa [hr₁.responses, hr₂.responses, htrace, List.append_cancel_left_eq] at hresponses
    have hresp : resp₁ = resp₂ := Option.ext fun r => by rw [← Option.mem_toList, hlast, Option.mem_toList]
    exact hr₁.controllerView_eq hs (hresp ▸ hr₂)

end Sys2Proof.Machine
end

section
/-! SUPPORT. A block reset and power-on, seen by the devices and the host: what a reset keeps, and the one write it may
land, device by device. -/

namespace Sys2Proof.Machine

/-! ### Block reset (70_reset_and_hazards.md R240, R241) -/

/-- A block reset puts every register of RRC at its reset value (10_state.md R40). -/
theorem sameRegisters_blockReset (landed : Bool) (s : State) : SameRegisters State.reset (blockReset landed s) := by
  constructor <;> rfl

theorem landOutstandingWrite_commanded (s : State) : (landOutstandingWrite s).commanded = s.commanded := by
  obtain ⟨-, e⟩ | ⟨-, e⟩ | ⟨-, e⟩ | ⟨-, e⟩ := landOutstandingWrite_cases s <;> rw [e] <;> simp

/-- What lies outside RRC and its write targets is no reset's to change. -/
theorem blockReset_frame (landed : Bool) (s : State) :
    (blockReset landed s).turns = s.turns ∧ (blockReset landed s).pci = s.pci ∧
      (blockReset landed s).program = s.program ∧ (blockReset landed s).commanded = s.commanded := by
  obtain ⟨hturns, hpci, -, hprogram, -⟩ := landOutstandingWrite_frame s
  cases landed with
  | false => exact ⟨rfl, rfl, rfl, rfl⟩
  | true => exact ⟨hturns, hpci, hprogram, landOutstandingWrite_commanded s⟩

/-- With no write outstanding, or none performed, the devices keep their state. -/
theorem sameDevices_blockReset_of_noWrite {landed : Bool} {s : State}
    (h : landed = false ∨ s.seq ≠ .msrWr ∧ s.seq ≠ .mmioWrLo ∧ s.seq ≠ .mmioWrHi) :
    SameDevices s (blockReset landed s) := by
  have hreset := sameDevices_blockReset landed s
  obtain rfl | ⟨hmsr, hlo, hhi⟩ := h
  · exact hreset
  · obtain ⟨hq, -⟩ | ⟨hq, -⟩ | ⟨hq, -⟩ | ⟨-, e⟩ := landOutstandingWrite_cases s
    · exact absurd hq hmsr
    · exact absurd hq hlo
    · exact absurd hq hhi
    · rwa [e, ite_self] at hreset

/-- The MSR write a reset abandons, performed by the device. -/
theorem sameDevices_blockReset_msrWr {s : State} (hq : s.seq = .msrWr) :
    SameDevices (performMsrWrite (orMask s.msrin reqMask) s) (blockReset true s) := by
  have e : landOutstandingWrite s = performMsrWrite (orMask s.msrin reqMask) s := by simp [landOutstandingWrite, hq]
  exact e ▸ sameDevices_blockReset true s

/-- The memory write a reset abandons, performed by the device. -/
theorem sameDevices_blockReset_memWrite {s : State} {addr : Word64} {w : Word32} (hw : WriteIssued s addr w) :
    SameDevices (performMemWrite addr w s) (blockReset true s) := by
  have e : landOutstandingWrite s = performMemWrite addr w s := by
    obtain ⟨hq, rfl, rfl⟩ | ⟨hq, rfl, rfl⟩ := hw <;> simp [landOutstandingWrite, hq]
  exact e ▸ sameDevices_blockReset true s

/-- A performed memory write, device by device: the MSR and every other address as before, off the mirror a stray write,
at the mirror the word written while UNLOCKED (20_memory.md R57, R58). -/
theorem SameDevices.after_memWrite {s t : State} {addr : Word64} {w : Word32}
    (h : SameDevices (performMemWrite addr w s) t) (hcfg : t.cfg = s.cfg) :
    t.msr = s.msr ∧ (∀ other, other ≠ addr → t.mirrorWord other = s.mirrorWord other) ∧
      (s.mirrorWord addr = none → t.stray = s.stray ++ [(addr, w)]) ∧
      ∀ old, s.mirrorWord addr = some old → t.stray = s.stray ∧
        t.mirrorWord addr = some (if s.locked = true then old else w) := by
  have hword := mirrorWord_congr h.mlo h.mhi (by simpa using hcfg)
  refine ⟨h.msr.trans (by simp), fun other hne => ?other, fun hnone => ?miss, fun old hold => ?hit⟩
  case other => rw [hword, performMemWrite_mirrorWord_other addr other w s hne]
  case miss => rw [h.stray, performMemWrite_stray addr w s hnone]
  case hit =>
    obtain ⟨hstray, hnew⟩ := performMemWrite_mirrorWord_same addr w old s hold
    exact ⟨h.stray.trans hstray, (hword addr).trans hnew⟩

/-- Settles O42: the reset's state keeps the host and the surroundings, and its devices are those of the one write it
lands, if any. -/
theorem blockResetKeepsTheDevices : Obligations.BlockResetKeepsTheDevices := by
  intro landed s ts hts
  have hkept : SameDevices s { s with turns := ts } := by constructor <;> rfl
  have hstep : step s = .next (blockReset landed { s with turns := ts }) := step_of_turns_cons hts
  have hcfg : (blockReset landed { s with turns := ts }).cfg = s.cfg := blockReset_cfg landed _
  obtain ⟨hturns, hpci, hprogram, hcommanded⟩ := blockReset_frame landed { s with turns := ts }
  refine ⟨_, hstep, sameRegisters_blockReset _ _, rfl, hturns, hpci, hcfg, hprogram, hcommanded, fun hno => ?noWrite,
    fun hlocked => ?locked, fun hl hq => ?msrWrite, fun hl addr w hw => ?memWrite⟩
  case noWrite => exact hkept.trans (sameDevices_blockReset_of_noWrite hno)
  case locked => exact step_keeps_locked_mirror hstep hlocked (by simp [nextTurn, hts])
  case msrWrite =>
    subst hl
    rw [← reqMask_eq]
    exact (sameDevices_performMsrWrite _ hkept).trans (sameDevices_blockReset_msrWr hq)
  case memWrite =>
    subst hl
    have hdev : SameDevices (performMemWrite addr w s) _ :=
      (sameDevices_performMemWrite addr w hkept rfl).trans (sameDevices_blockReset_memWrite hw)
    exact hdev.after_memWrite hcfg

/-! ### Power-on (70_reset_and_hazards.md R242) -/

/-- Clearing LOCK keeps the other 31 bits of a HIGH word (20_memory.md R62). -/
theorem getLsbD_clearLock (w : Word32) {j : Nat} (hj : j < 31) : (w &&& 0x7FFFFFFF).getLsbD j = w.getLsbD j := by
  have hmask : (0x7FFFFFFF : Word32).getLsbD j = true := by
    change (BitVec.ofNat 32 (2 ^ 31 - 1)).getLsbD j = true
    rw [BitVec.getLsbD_ofNat, Nat.testBit_two_pow_sub_one, decide_eq_true hj, decide_eq_true (hj.trans (by decide))]
    rfl
  rw [BitVec.getLsbD_and, hmask, Bool.and_true]

/-- Settles O43: power-on is a block reset whose devices the turn then sets, LOCK cleared. -/
theorem powerOnUnlocksTheMirror : Obligations.PowerOnUnlocksTheMirror := by
  intro landed msr mlo mhi pci s ts hts
  refine ⟨powerOn landed msr mlo mhi pci { s with turns := ts }, step_of_turns_cons hts, ?registers, rfl,
    powerOn_unlocked _ _ _ _ _ _, rfl, rfl, rfl, fun j => getLsbD_clearLock mhi, blockReset_cfg landed _, rfl⟩
  case registers => constructor <;> rfl

end Sys2Proof.Machine
end

section
/-! SUPPORT. How long a command runs when every device answers: each step ends the command or takes it to a later stage
in the numbering of SEQ, of which there are seven. -/

namespace Sys2Proof.Machine

/-- A step of the controller with an answer: the command has completed, or its next stage has a higher code, so that no
stage comes twice (10_state.md R25, R36). -/
def Advances (s t : State) : Prop := t.seq = .idle ∧ t.status.done = true ∨ s.seq.code < t.seq.code

theorem advances_goto {q : Seq} {s u : State} (hq : s.seq.code < q.code) : Advances s (goto q u) := .inr hq

theorem advances_afterPart {i : Instr} {q : Seq} {s u : State} (hq : s.seq.code < q.code) :
    Advances s (afterPart i q u) := by
  obtain ⟨e, -⟩ | ⟨e, -⟩ := afterPart_cases i q u <;> rw [e]
  · exact .inl ⟨rfl, rfl⟩
  · exact advances_goto hq

theorem advances_lockedOutcome (p : Policy) (lo hi : Word32) (s u : State) : Advances s (lockedOutcome p lo hi u) := by
  obtain ⟨-, e⟩ | ⟨-, -, e⟩ | ⟨-, -, e⟩ := lockedOutcome_cases p lo hi u <;> rw [e] <;> exact .inl ⟨rfl, rfl⟩

/-- Every answer, `ok` or `err`, advances the running command (60_exceptions.md R218; 45_sequence.md R195). -/
theorem exec_advances {i : Instr} {s t : State} (h : exec i s = .next t) (hq : s.seq ≠ .idle)
    (ha : nextDraw s ≠ .noAnswer) : Advances s t := by
  cases exec_cases h with
  | codec hidle _ _ _ | start hidle _ _ _ => exact absurd hidle hq
  | waiting _ hd _ => exact absurd hd ha
  | readErr _ _ _ _ _ ht | msrWriteErr _ _ _ _ ht | disabled _ _ _ _ _ ht | lowWriteErr _ _ _ _ _ ht
  | highWritten _ _ _ _ _ ht | highWriteErr _ _ _ _ _ ht => exact ht ▸ .inl ⟨rfl, rfl⟩
  | msrEnabled _ hq _ _ _ ht | msrWritten _ hq _ _ ht | resolved _ hq _ _ _ ht =>
    exact ht ▸ advances_afterPart (by rw [hq]; decide)
  | foundLocked _ _ _ _ _ _ ht => exact ht ▸ advances_lockedOutcome _ _ _ _ _
  | msrToWrite _ hq _ _ _ ht | lowRead _ _ hq _ _ ht | foundUnlocked _ _ hq _ _ _ ht | lowWritten _ _ hq _ _ ht =>
    exact ht ▸ advances_goto (by rw [hq]; decide)

@[simp] theorem afterPart_draws (i : Instr) (q : Seq) (s : State) : (afterPart i q s).draws = s.draws := by
  cases i <;> rfl

theorem lockedOutcome_draws (p : Policy) (lo hi : Word32) (s : State) : (lockedOutcome p lo hi s).draws = s.draws := by
  obtain ⟨-, e⟩ | ⟨-, -, e⟩ | ⟨-, -, e⟩ := lockedOutcome_cases p lo hi s <;> rw [e] <;> rfl

/-- A stage takes one answer, its transaction's (20_memory.md R59 to R65). -/
theorem exec_draws {i : Instr} {s t : State} (h : exec i s = .next t) (hq : s.seq ≠ .idle) :
    t.draws = (dropDraw s).draws := by
  cases exec_cases h with
  | codec hidle _ _ _ | start hidle _ _ _ => exact absurd hidle hq
  | foundLocked _ _ _ _ _ _ ht => rw [ht, lockedOutcome_draws]; rfl
  | msrWriteErr _ _ _ _ ht => simp [ht]
  | waiting _ _ ht | readErr _ _ _ _ _ ht | msrEnabled _ _ _ _ _ ht | msrToWrite _ _ _ _ _ ht | msrWritten _ _ _ _ ht
  | resolved _ _ _ _ _ ht | disabled _ _ _ _ _ ht | lowRead _ _ _ _ _ ht | foundUnlocked _ _ _ _ _ _ ht
  | lowWritten _ _ _ _ _ ht | lowWriteErr _ _ _ _ _ ht | highWritten _ _ _ _ _ ht | highWriteErr _ _ _ _ _ ht =>
    simp [ht, unlockedPrepare]

/-- A running command at a stage of code `c`, with an answer for each stage from there to the last, of code 7, ends: the
answers run out no sooner than the stages. -/
theorem run_ends {n : Nat} : ∀ {s : State}, RegisterInv s → s.busy = true → s.turns = [] → s.program = [] →
    Answered n s → 8 ≤ s.seq.code.toNat + n →
    ∃ t, Host.Core.run core n s = .next t ∧ t.seq = .idle ∧ t.status.done = true := by
  induction n with
  | zero =>
    intro s _ _ _ _ _ hlast
    have hcode : ∀ q : Seq, q.code.toNat ≤ 7 := by intro q; cases q <;> decide
    have hseq := hcode s.seq
    omega
  | succ n ih =>
    intro s hs hb hturns hprog ha hlast
    have hq := (busy_iff s).mp hb
    obtain ⟨i, hc, hmem, -⟩ := hs.running hb
    obtain ⟨t, ht⟩ := exec_next_of_stage (.inr hmem)
    obtain ⟨-, -, -, hturns', hprog', -⟩ := exec_frame ht
    rw [run_succ_of_exec n hc hq hturns ht]
    obtain ⟨hidle, hdone⟩ | hlater := exec_advances ht hq ha.nextDraw_ne
    · exact ⟨t, run_of_rest hidle (hturns'.trans hturns) (hprog'.trans hprog) n, hidle, hdone⟩
    · have hlater : s.seq.code.toNat < t.seq.code.toNat := hlater
      have hbusy : t.busy = true := by
        rw [busy_iff]
        intro hidle
        rw [hidle] at hlater
        exact absurd hlater (Nat.not_lt_zero _)
      exact ih (exec_keeps_registerInv hs (fun _ => decode_of_command hc) ht) hbusy (hturns'.trans hturns)
        (hprog'.trans hprog) (ha.dropDraw.congr (exec_draws ht hq)) (by omega)

/-- Settles O58: a running command is at a stage of code 1 or more, so seven answers are enough. -/
theorem commandsEndWhenDevicesAnswer : Obligations.CommandsEndWhenDevicesAnswer := by
  intro s hs hb hturns hprog ha
  have hcode : ∀ q : Seq, q ≠ .idle → 1 ≤ q.code.toNat := by intro q; cases q <;> decide
  have hfirst := hcode s.seq ((busy_iff s).mp hb)
  exact run_ends hs hb hturns hprog ha (by omega)

end Sys2Proof.Machine
end
